-- ==== Sys2Proof/Word.lean ====
section
/-! DEFINITION. The two word widths of the core (00_scope.md R11): bytes (A to L, F, memory) and 16-bit words (PC,
SP, register pairs, immediate words). -/

namespace Sys2Proof

/-- An 8-bit value (00_scope.md R11). -/
abbrev Byte := BitVec 8

/-- A 16-bit value (00_scope.md R11). -/
abbrev Word := BitVec 16

end Sys2Proof
end

