-- ==== Sys2Proof/Config.lean ====
section
/-! DEFINITION. The implementation parameters of 00_scope.md R5 to R10, as one record of plain data, and the one free
value of the model: the bytes the external I/O collaborator answers. -/

namespace Sys2Proof

/-- `AC_MODE` (00_scope.md R7): what the ALU writes to the auxiliary-carry flag. -/
inductive AcMode where
  | zero
  | computed
  deriving DecidableEq, Repr

/-- The two values of `DAA_MODE` (00_scope.md R8) and of `UNLISTED_OPS` (R9). -/
inductive OpcodeMode where
  | fault
  | execute
  deriving DecidableEq, Repr

/-- `IO` (00_scope.md R10): the minimal build, whose IN reads 0, or a collaborator of which nothing is assumed. -/
inductive IoMode where
  | minimal
  | external
  deriving DecidableEq, Repr

/-- The parameters of one interpreter instance (00_scope.md section 3). They never change while it runs
(10_state.md R20); INIT_MEM is an argument of the launch and stands in memory from then on. -/
structure Params where
  /-- `MEM_SIZE` (R5). -/
  memSize : Nat
  /-- `LOAD_OFFSET` (R6). -/
  loadOffset : Word
  /-- `AC_MODE` (R7). -/
  acMode : AcMode
  /-- `DAA_MODE` (R8). -/
  daaMode : OpcodeMode
  /-- `UNLISTED_OPS` (R9). -/
  unlistedOps : OpcodeMode
  /-- `IO` (R10). -/
  io : IoMode
  deriving DecidableEq, Repr

/-- FREE VALUE (log entry 4): the byte the external collaborator answers at the n-th draw, for a port
(00_scope.md R10, "any byte, chosen afresh at each IN"). No body: nothing can be proved of it. -/
opaque Config.ioIn : Nat → Byte → Byte

end Sys2Proof
end

