-- ==== Sys2Proof/Syntax.lean ====
section
/-! DEFINITION. The instructions: one constructor of `Instr` for each of the 256 rows of spec/opcode_table.json
(30_encoding.md R82, R83), the operand selectors of R81, and the forms (functions from operands to constructors)
in which the rules of files 40 to 44 speak. Operands are typed at the width the encoding gives them (R78 to R80). -/

namespace Sys2Proof

/-- The 3-bit register selector (10_state.md R21); `m` is the memory byte at H:L. -/
inductive Reg8 where
  | b | c | d | e | h | l | m | a
  deriving DecidableEq, Repr

/-- The 2-bit register-pair selector (10_state.md R25) of every pair instruction but PUSH and POP. -/
inductive Pair where
  | bc | de | hl | sp
  deriving DecidableEq, Repr

/-- The pair selector of PUSH and POP, where slot 3 is the PSW (10_state.md R25, R28). -/
inductive StackPair where
  | bc | de | hl | psw
  deriving DecidableEq, Repr

/-- The pair selector of LDAX and STAX, `rp` in 0, 1 (40_data_movement.md R105, R106). -/
inductive IndexPair where
  | bc | de
  deriving DecidableEq, Repr

/-- The 3-bit condition selector (43_control_flow.md R170). -/
inductive Cond where
  | nz | z | nc | c | po | pe | p | m
  deriving DecidableEq, Repr

/-- The 3-bit ALU operation selector (30_encoding.md R81). -/
inductive AluOp where
  | add | adc | sub | sbb | ana | xra | ora | cmp
  deriving DecidableEq, Repr

/-- The instructions: one constructor per row of spec/opcode_table.json, those with an operand first, each group in opcode
order. -/
inductive Instr where
  /-- 0x01 `LXI B,d16`, R102. -/
  | lxiB (v : Word)
  /-- 0x06 `MVI B,d8`, R101. -/
  | mviB (v : Byte)
  /-- 0x0E `MVI C,d8`, R101. -/
  | mviC (v : Byte)
  /-- 0x11 `LXI D,d16`, R102. -/
  | lxiD (v : Word)
  /-- 0x16 `MVI D,d8`, R101. -/
  | mviD (v : Byte)
  /-- 0x1E `MVI E,d8`, R101. -/
  | mviE (v : Byte)
  /-- 0x21 `LXI H,d16`, R102. -/
  | lxiH (v : Word)
  /-- 0x22 `SHLD a16`, R108. -/
  | shld (v : Word)
  /-- 0x26 `MVI H,d8`, R101. -/
  | mviH (v : Byte)
  /-- 0x2A `LHLD a16`, R107. -/
  | lhld (v : Word)
  /-- 0x2E `MVI L,d8`, R101. -/
  | mviL (v : Byte)
  /-- 0x31 `LXI SP,d16`, R102. -/
  | lxiSp (v : Word)
  /-- 0x32 `STA a16`, R104. -/
  | sta (v : Word)
  /-- 0x36 `MVI M,d8`, R101. -/
  | mviM (v : Byte)
  /-- 0x3A `LDA a16`, R103. -/
  | lda (v : Word)
  /-- 0x3E `MVI A,d8`, R101. -/
  | mviA (v : Byte)
  /-- 0xC2 `JNZ a16`, R172. -/
  | jnz (v : Word)
  /-- 0xC3 `JMP a16`, R171. -/
  | jmp (v : Word)
  /-- 0xC4 `CNZ a16`, R174. -/
  | cnz (v : Word)
  /-- 0xC6 `ADI d8`, R128. -/
  | adi (v : Byte)
  /-- 0xCA `JZ a16`, R172. -/
  | jz (v : Word)
  /-- 0xCB `*JMP a16`, R177. -/
  | jmpAlias (v : Word)
  /-- 0xCC `CZ a16`, R174. -/
  | cz (v : Word)
  /-- 0xCD `CALL a16`, R173. -/
  | call (v : Word)
  /-- 0xCE `ACI d8`, R129. -/
  | aci (v : Byte)
  /-- 0xD2 `JNC a16`, R172. -/
  | jnc (v : Word)
  /-- 0xD3 `OUT d8`, R195. -/
  | outp (v : Byte)
  /-- 0xD4 `CNC a16`, R174. -/
  | cnc (v : Word)
  /-- 0xD6 `SUI d8`, R130. -/
  | sui (v : Byte)
  /-- 0xDA `JC a16`, R172. -/
  | jc (v : Word)
  /-- 0xDB `IN d8`, R194. -/
  | inp (v : Byte)
  /-- 0xDC `CC a16`, R174. -/
  | cc (v : Word)
  /-- 0xDD `*CALL a16`, R178. -/
  | callAliasDD (v : Word)
  /-- 0xDE `SBI d8`, R131. -/
  | sbi (v : Byte)
  /-- 0xE2 `JPO a16`, R172. -/
  | jpo (v : Word)
  /-- 0xE4 `CPO a16`, R174. -/
  | cpo (v : Word)
  /-- 0xE6 `ANI d8`, R154. -/
  | ani (v : Byte)
  /-- 0xEA `JPE a16`, R172. -/
  | jpe (v : Word)
  /-- 0xEC `CPE a16`, R174. -/
  | cpe (v : Word)
  /-- 0xED `*CALL a16`, R178. -/
  | callAliasED (v : Word)
  /-- 0xEE `XRI d8`, R155. -/
  | xri (v : Byte)
  /-- 0xF2 `JP a16`, R172. -/
  | jp (v : Word)
  /-- 0xF4 `CP a16`, R174. -/
  | cp (v : Word)
  /-- 0xF6 `ORI d8`, R156. -/
  | ori (v : Byte)
  /-- 0xFA `JM a16`, R172. -/
  | jm (v : Word)
  /-- 0xFC `CM a16`, R174. -/
  | cm (v : Word)
  /-- 0xFD `*CALL a16`, R178. -/
  | callAliasFD (v : Word)
  /-- 0xFE `CPI d8`, R132. -/
  | cpi (v : Byte)
  /-- 0x00 `NOP`, R197. -/
  | nop
  /-- 0x02 `STAX B`, R106. -/
  | staxB
  /-- 0x03 `INX B`, R135. -/
  | inxB
  /-- 0x04 `INR B`, R133. -/
  | inrB
  /-- 0x05 `DCR B`, R134. -/
  | dcrB
  /-- 0x07 `RLC`, R157. -/
  | rlc
  /-- 0x08 `*NOP`, R198. -/
  | nopAlias08
  /-- 0x09 `DAD B`, R137. -/
  | dadB
  /-- 0x0A `LDAX B`, R105. -/
  | ldaxB
  /-- 0x0B `DCX B`, R136. -/
  | dcxB
  /-- 0x0C `INR C`, R133. -/
  | inrC
  /-- 0x0D `DCR C`, R134. -/
  | dcrC
  /-- 0x0F `RRC`, R158. -/
  | rrc
  /-- 0x10 `*NOP`, R198. -/
  | nopAlias10
  /-- 0x12 `STAX D`, R106. -/
  | staxD
  /-- 0x13 `INX D`, R135. -/
  | inxD
  /-- 0x14 `INR D`, R133. -/
  | inrD
  /-- 0x15 `DCR D`, R134. -/
  | dcrD
  /-- 0x17 `RAL`, R159. -/
  | ral
  /-- 0x18 `*NOP`, R198. -/
  | nopAlias18
  /-- 0x19 `DAD D`, R137. -/
  | dadD
  /-- 0x1A `LDAX D`, R105. -/
  | ldaxD
  /-- 0x1B `DCX D`, R136. -/
  | dcxD
  /-- 0x1C `INR E`, R133. -/
  | inrE
  /-- 0x1D `DCR E`, R134. -/
  | dcrE
  /-- 0x1F `RAR`, R160. -/
  | rar
  /-- 0x20 `*NOP`, R198. -/
  | nopAlias20
  /-- 0x23 `INX H`, R135. -/
  | inxH
  /-- 0x24 `INR H`, R133. -/
  | inrH
  /-- 0x25 `DCR H`, R134. -/
  | dcrH
  /-- 0x27 `DAA`, R138. -/
  | daa
  /-- 0x28 `*NOP`, R198. -/
  | nopAlias28
  /-- 0x29 `DAD H`, R137. -/
  | dadH
  /-- 0x2B `DCX H`, R136. -/
  | dcxH
  /-- 0x2C `INR L`, R133. -/
  | inrL
  /-- 0x2D `DCR L`, R134. -/
  | dcrL
  /-- 0x2F `CMA`, R163. -/
  | cma
  /-- 0x30 `*NOP`, R198. -/
  | nopAlias30
  /-- 0x33 `INX SP`, R135. -/
  | inxSp
  /-- 0x34 `INR M`, R133. -/
  | inrM
  /-- 0x35 `DCR M`, R134. -/
  | dcrM
  /-- 0x37 `STC`, R161. -/
  | stc
  /-- 0x38 `*NOP`, R198. -/
  | nopAlias38
  /-- 0x39 `DAD SP`, R137. -/
  | dadSp
  /-- 0x3B `DCX SP`, R136. -/
  | dcxSp
  /-- 0x3C `INR A`, R133. -/
  | inrA
  /-- 0x3D `DCR A`, R134. -/
  | dcrA
  /-- 0x3F `CMC`, R162. -/
  | cmc
  /-- 0x40 `MOV B,B`, R100. -/
  | movBB
  /-- 0x41 `MOV B,C`, R100. -/
  | movBC
  /-- 0x42 `MOV B,D`, R100. -/
  | movBD
  /-- 0x43 `MOV B,E`, R100. -/
  | movBE
  /-- 0x44 `MOV B,H`, R100. -/
  | movBH
  /-- 0x45 `MOV B,L`, R100. -/
  | movBL
  /-- 0x46 `MOV B,M`, R100. -/
  | movBM
  /-- 0x47 `MOV B,A`, R100. -/
  | movBA
  /-- 0x48 `MOV C,B`, R100. -/
  | movCB
  /-- 0x49 `MOV C,C`, R100. -/
  | movCC
  /-- 0x4A `MOV C,D`, R100. -/
  | movCD
  /-- 0x4B `MOV C,E`, R100. -/
  | movCE
  /-- 0x4C `MOV C,H`, R100. -/
  | movCH
  /-- 0x4D `MOV C,L`, R100. -/
  | movCL
  /-- 0x4E `MOV C,M`, R100. -/
  | movCM
  /-- 0x4F `MOV C,A`, R100. -/
  | movCA
  /-- 0x50 `MOV D,B`, R100. -/
  | movDB
  /-- 0x51 `MOV D,C`, R100. -/
  | movDC
  /-- 0x52 `MOV D,D`, R100. -/
  | movDD
  /-- 0x53 `MOV D,E`, R100. -/
  | movDE
  /-- 0x54 `MOV D,H`, R100. -/
  | movDH
  /-- 0x55 `MOV D,L`, R100. -/
  | movDL
  /-- 0x56 `MOV D,M`, R100. -/
  | movDM
  /-- 0x57 `MOV D,A`, R100. -/
  | movDA
  /-- 0x58 `MOV E,B`, R100. -/
  | movEB
  /-- 0x59 `MOV E,C`, R100. -/
  | movEC
  /-- 0x5A `MOV E,D`, R100. -/
  | movED
  /-- 0x5B `MOV E,E`, R100. -/
  | movEE
  /-- 0x5C `MOV E,H`, R100. -/
  | movEH
  /-- 0x5D `MOV E,L`, R100. -/
  | movEL
  /-- 0x5E `MOV E,M`, R100. -/
  | movEM
  /-- 0x5F `MOV E,A`, R100. -/
  | movEA
  /-- 0x60 `MOV H,B`, R100. -/
  | movHB
  /-- 0x61 `MOV H,C`, R100. -/
  | movHC
  /-- 0x62 `MOV H,D`, R100. -/
  | movHD
  /-- 0x63 `MOV H,E`, R100. -/
  | movHE
  /-- 0x64 `MOV H,H`, R100. -/
  | movHH
  /-- 0x65 `MOV H,L`, R100. -/
  | movHL
  /-- 0x66 `MOV H,M`, R100. -/
  | movHM
  /-- 0x67 `MOV H,A`, R100. -/
  | movHA
  /-- 0x68 `MOV L,B`, R100. -/
  | movLB
  /-- 0x69 `MOV L,C`, R100. -/
  | movLC
  /-- 0x6A `MOV L,D`, R100. -/
  | movLD
  /-- 0x6B `MOV L,E`, R100. -/
  | movLE
  /-- 0x6C `MOV L,H`, R100. -/
  | movLH
  /-- 0x6D `MOV L,L`, R100. -/
  | movLL
  /-- 0x6E `MOV L,M`, R100. -/
  | movLM
  /-- 0x6F `MOV L,A`, R100. -/
  | movLA
  /-- 0x70 `MOV M,B`, R100. -/
  | movMB
  /-- 0x71 `MOV M,C`, R100. -/
  | movMC
  /-- 0x72 `MOV M,D`, R100. -/
  | movMD
  /-- 0x73 `MOV M,E`, R100. -/
  | movME
  /-- 0x74 `MOV M,H`, R100. -/
  | movMH
  /-- 0x75 `MOV M,L`, R100. -/
  | movML
  /-- 0x76 `HLT`, R196. -/
  | hlt
  /-- 0x77 `MOV M,A`, R100. -/
  | movMA
  /-- 0x78 `MOV A,B`, R100. -/
  | movAB
  /-- 0x79 `MOV A,C`, R100. -/
  | movAC
  /-- 0x7A `MOV A,D`, R100. -/
  | movAD
  /-- 0x7B `MOV A,E`, R100. -/
  | movAE
  /-- 0x7C `MOV A,H`, R100. -/
  | movAH
  /-- 0x7D `MOV A,L`, R100. -/
  | movAL
  /-- 0x7E `MOV A,M`, R100. -/
  | movAM
  /-- 0x7F `MOV A,A`, R100. -/
  | movAA
  /-- 0x80 `ADD B`, R123. -/
  | addB
  /-- 0x81 `ADD C`, R123. -/
  | addC
  /-- 0x82 `ADD D`, R123. -/
  | addD
  /-- 0x83 `ADD E`, R123. -/
  | addE
  /-- 0x84 `ADD H`, R123. -/
  | addH
  /-- 0x85 `ADD L`, R123. -/
  | addL
  /-- 0x86 `ADD M`, R123. -/
  | addM
  /-- 0x87 `ADD A`, R123. -/
  | addA
  /-- 0x88 `ADC B`, R124. -/
  | adcB
  /-- 0x89 `ADC C`, R124. -/
  | adcC
  /-- 0x8A `ADC D`, R124. -/
  | adcD
  /-- 0x8B `ADC E`, R124. -/
  | adcE
  /-- 0x8C `ADC H`, R124. -/
  | adcH
  /-- 0x8D `ADC L`, R124. -/
  | adcL
  /-- 0x8E `ADC M`, R124. -/
  | adcM
  /-- 0x8F `ADC A`, R124. -/
  | adcA
  /-- 0x90 `SUB B`, R125. -/
  | subB
  /-- 0x91 `SUB C`, R125. -/
  | subC
  /-- 0x92 `SUB D`, R125. -/
  | subD
  /-- 0x93 `SUB E`, R125. -/
  | subE
  /-- 0x94 `SUB H`, R125. -/
  | subH
  /-- 0x95 `SUB L`, R125. -/
  | subL
  /-- 0x96 `SUB M`, R125. -/
  | subM
  /-- 0x97 `SUB A`, R125. -/
  | subA
  /-- 0x98 `SBB B`, R126. -/
  | sbbB
  /-- 0x99 `SBB C`, R126. -/
  | sbbC
  /-- 0x9A `SBB D`, R126. -/
  | sbbD
  /-- 0x9B `SBB E`, R126. -/
  | sbbE
  /-- 0x9C `SBB H`, R126. -/
  | sbbH
  /-- 0x9D `SBB L`, R126. -/
  | sbbL
  /-- 0x9E `SBB M`, R126. -/
  | sbbM
  /-- 0x9F `SBB A`, R126. -/
  | sbbA
  /-- 0xA0 `ANA B`, R151. -/
  | anaB
  /-- 0xA1 `ANA C`, R151. -/
  | anaC
  /-- 0xA2 `ANA D`, R151. -/
  | anaD
  /-- 0xA3 `ANA E`, R151. -/
  | anaE
  /-- 0xA4 `ANA H`, R151. -/
  | anaH
  /-- 0xA5 `ANA L`, R151. -/
  | anaL
  /-- 0xA6 `ANA M`, R151. -/
  | anaM
  /-- 0xA7 `ANA A`, R151. -/
  | anaA
  /-- 0xA8 `XRA B`, R152. -/
  | xraB
  /-- 0xA9 `XRA C`, R152. -/
  | xraC
  /-- 0xAA `XRA D`, R152. -/
  | xraD
  /-- 0xAB `XRA E`, R152. -/
  | xraE
  /-- 0xAC `XRA H`, R152. -/
  | xraH
  /-- 0xAD `XRA L`, R152. -/
  | xraL
  /-- 0xAE `XRA M`, R152. -/
  | xraM
  /-- 0xAF `XRA A`, R152. -/
  | xraA
  /-- 0xB0 `ORA B`, R153. -/
  | oraB
  /-- 0xB1 `ORA C`, R153. -/
  | oraC
  /-- 0xB2 `ORA D`, R153. -/
  | oraD
  /-- 0xB3 `ORA E`, R153. -/
  | oraE
  /-- 0xB4 `ORA H`, R153. -/
  | oraH
  /-- 0xB5 `ORA L`, R153. -/
  | oraL
  /-- 0xB6 `ORA M`, R153. -/
  | oraM
  /-- 0xB7 `ORA A`, R153. -/
  | oraA
  /-- 0xB8 `CMP B`, R127. -/
  | cmpB
  /-- 0xB9 `CMP C`, R127. -/
  | cmpC
  /-- 0xBA `CMP D`, R127. -/
  | cmpD
  /-- 0xBB `CMP E`, R127. -/
  | cmpE
  /-- 0xBC `CMP H`, R127. -/
  | cmpH
  /-- 0xBD `CMP L`, R127. -/
  | cmpL
  /-- 0xBE `CMP M`, R127. -/
  | cmpM
  /-- 0xBF `CMP A`, R127. -/
  | cmpA
  /-- 0xC0 `RNZ`, R176. -/
  | rnz
  /-- 0xC1 `POP B`, R191. -/
  | popB
  /-- 0xC5 `PUSH B`, R190. -/
  | pushB
  /-- 0xC7 `RST 0`, R181. -/
  | rst0
  /-- 0xC8 `RZ`, R176. -/
  | rz
  /-- 0xC9 `RET`, R175. -/
  | ret
  /-- 0xCF `RST 1`, R181. -/
  | rst1
  /-- 0xD0 `RNC`, R176. -/
  | rnc
  /-- 0xD1 `POP D`, R191. -/
  | popD
  /-- 0xD5 `PUSH D`, R190. -/
  | pushD
  /-- 0xD7 `RST 2`, R181. -/
  | rst2
  /-- 0xD8 `RC`, R176. -/
  | rc
  /-- 0xD9 `*RET`, R179. -/
  | retAlias
  /-- 0xDF `RST 3`, R181. -/
  | rst3
  /-- 0xE0 `RPO`, R176. -/
  | rpo
  /-- 0xE1 `POP H`, R191. -/
  | popH
  /-- 0xE3 `XTHL`, R192. -/
  | xthl
  /-- 0xE5 `PUSH H`, R190. -/
  | pushH
  /-- 0xE7 `RST 4`, R181. -/
  | rst4
  /-- 0xE8 `RPE`, R176. -/
  | rpe
  /-- 0xE9 `PCHL`, R180. -/
  | pchl
  /-- 0xEB `XCHG`, R109. -/
  | xchg
  /-- 0xEF `RST 5`, R181. -/
  | rst5
  /-- 0xF0 `RP`, R176. -/
  | rp
  /-- 0xF1 `POP PSW`, R191. -/
  | popPsw
  /-- 0xF3 `DI`, R200. -/
  | di
  /-- 0xF5 `PUSH PSW`, R190. -/
  | pushPsw
  /-- 0xF7 `RST 6`, R181. -/
  | rst6
  /-- 0xF8 `RM`, R176. -/
  | rm
  /-- 0xF9 `SPHL`, R193. -/
  | sphl
  /-- 0xFB `EI`, R199. -/
  | ei
  /-- 0xFF `RST 7`, R181. -/
  | rst7
  deriving DecidableEq, Repr

/-- MOV ddd,sss: 63 rows; the place of MOV M,M is HLT (40_data_movement.md R100). -/
def movInstr : Reg8 → Reg8 → Option Instr
  | .b, .b => some .movBB
  | .b, .c => some .movBC
  | .b, .d => some .movBD
  | .b, .e => some .movBE
  | .b, .h => some .movBH
  | .b, .l => some .movBL
  | .b, .m => some .movBM
  | .b, .a => some .movBA
  | .c, .b => some .movCB
  | .c, .c => some .movCC
  | .c, .d => some .movCD
  | .c, .e => some .movCE
  | .c, .h => some .movCH
  | .c, .l => some .movCL
  | .c, .m => some .movCM
  | .c, .a => some .movCA
  | .d, .b => some .movDB
  | .d, .c => some .movDC
  | .d, .d => some .movDD
  | .d, .e => some .movDE
  | .d, .h => some .movDH
  | .d, .l => some .movDL
  | .d, .m => some .movDM
  | .d, .a => some .movDA
  | .e, .b => some .movEB
  | .e, .c => some .movEC
  | .e, .d => some .movED
  | .e, .e => some .movEE
  | .e, .h => some .movEH
  | .e, .l => some .movEL
  | .e, .m => some .movEM
  | .e, .a => some .movEA
  | .h, .b => some .movHB
  | .h, .c => some .movHC
  | .h, .d => some .movHD
  | .h, .e => some .movHE
  | .h, .h => some .movHH
  | .h, .l => some .movHL
  | .h, .m => some .movHM
  | .h, .a => some .movHA
  | .l, .b => some .movLB
  | .l, .c => some .movLC
  | .l, .d => some .movLD
  | .l, .e => some .movLE
  | .l, .h => some .movLH
  | .l, .l => some .movLL
  | .l, .m => some .movLM
  | .l, .a => some .movLA
  | .m, .b => some .movMB
  | .m, .c => some .movMC
  | .m, .d => some .movMD
  | .m, .e => some .movME
  | .m, .h => some .movMH
  | .m, .l => some .movML
  | .m, .m => none
  | .m, .a => some .movMA
  | .a, .b => some .movAB
  | .a, .c => some .movAC
  | .a, .d => some .movAD
  | .a, .e => some .movAE
  | .a, .h => some .movAH
  | .a, .l => some .movAL
  | .a, .m => some .movAM
  | .a, .a => some .movAA

/-- MVI ddd,d8 (R101). -/
def mviInstr : Reg8 → Byte → Instr
  | .b, v => .mviB v
  | .c, v => .mviC v
  | .d, v => .mviD v
  | .e, v => .mviE v
  | .h, v => .mviH v
  | .l, v => .mviL v
  | .m, v => .mviM v
  | .a, v => .mviA v

/-- LXI rp,d16 (R102). -/
def lxiInstr : Pair → Word → Instr
  | .bc, v => .lxiB v
  | .de, v => .lxiD v
  | .hl, v => .lxiH v
  | .sp, v => .lxiSp v

/-- LDAX rp (R105). -/
def ldaxInstr : IndexPair → Instr
  | .bc => .ldaxB
  | .de => .ldaxD

/-- STAX rp (R106). -/
def staxInstr : IndexPair → Instr
  | .bc => .staxB
  | .de => .staxD

/-- The ALU group on A and a register or M (30_encoding.md R82, group 10). -/
def aluRegInstr : AluOp → Reg8 → Instr
  | .add, .b => .addB
  | .add, .c => .addC
  | .add, .d => .addD
  | .add, .e => .addE
  | .add, .h => .addH
  | .add, .l => .addL
  | .add, .m => .addM
  | .add, .a => .addA
  | .adc, .b => .adcB
  | .adc, .c => .adcC
  | .adc, .d => .adcD
  | .adc, .e => .adcE
  | .adc, .h => .adcH
  | .adc, .l => .adcL
  | .adc, .m => .adcM
  | .adc, .a => .adcA
  | .sub, .b => .subB
  | .sub, .c => .subC
  | .sub, .d => .subD
  | .sub, .e => .subE
  | .sub, .h => .subH
  | .sub, .l => .subL
  | .sub, .m => .subM
  | .sub, .a => .subA
  | .sbb, .b => .sbbB
  | .sbb, .c => .sbbC
  | .sbb, .d => .sbbD
  | .sbb, .e => .sbbE
  | .sbb, .h => .sbbH
  | .sbb, .l => .sbbL
  | .sbb, .m => .sbbM
  | .sbb, .a => .sbbA
  | .ana, .b => .anaB
  | .ana, .c => .anaC
  | .ana, .d => .anaD
  | .ana, .e => .anaE
  | .ana, .h => .anaH
  | .ana, .l => .anaL
  | .ana, .m => .anaM
  | .ana, .a => .anaA
  | .xra, .b => .xraB
  | .xra, .c => .xraC
  | .xra, .d => .xraD
  | .xra, .e => .xraE
  | .xra, .h => .xraH
  | .xra, .l => .xraL
  | .xra, .m => .xraM
  | .xra, .a => .xraA
  | .ora, .b => .oraB
  | .ora, .c => .oraC
  | .ora, .d => .oraD
  | .ora, .e => .oraE
  | .ora, .h => .oraH
  | .ora, .l => .oraL
  | .ora, .m => .oraM
  | .ora, .a => .oraA
  | .cmp, .b => .cmpB
  | .cmp, .c => .cmpC
  | .cmp, .d => .cmpD
  | .cmp, .e => .cmpE
  | .cmp, .h => .cmpH
  | .cmp, .l => .cmpL
  | .cmp, .m => .cmpM
  | .cmp, .a => .cmpA

/-- The ALU group on A and d8 (30_encoding.md R82, group 11). -/
def aluImmInstr : AluOp → Byte → Instr
  | .add, v => .adi v
  | .adc, v => .aci v
  | .sub, v => .sui v
  | .sbb, v => .sbi v
  | .ana, v => .ani v
  | .xra, v => .xri v
  | .ora, v => .ori v
  | .cmp, v => .cpi v

/-- INR ddd (41_arithmetic.md R133). -/
def inrInstr : Reg8 → Instr
  | .b => .inrB
  | .c => .inrC
  | .d => .inrD
  | .e => .inrE
  | .h => .inrH
  | .l => .inrL
  | .m => .inrM
  | .a => .inrA

/-- DCR ddd (41_arithmetic.md R134). -/
def dcrInstr : Reg8 → Instr
  | .b => .dcrB
  | .c => .dcrC
  | .d => .dcrD
  | .e => .dcrE
  | .h => .dcrH
  | .l => .dcrL
  | .m => .dcrM
  | .a => .dcrA

/-- INX rp (41_arithmetic.md R135). -/
def inxInstr : Pair → Instr
  | .bc => .inxB
  | .de => .inxD
  | .hl => .inxH
  | .sp => .inxSp

/-- DCX rp (41_arithmetic.md R136). -/
def dcxInstr : Pair → Instr
  | .bc => .dcxB
  | .de => .dcxD
  | .hl => .dcxH
  | .sp => .dcxSp

/-- DAD rp (41_arithmetic.md R137). -/
def dadInstr : Pair → Instr
  | .bc => .dadB
  | .de => .dadD
  | .hl => .dadH
  | .sp => .dadSp

/-- Jcc a16 (43_control_flow.md R172). -/
def jccInstr : Cond → Word → Instr
  | .nz, v => .jnz v
  | .z, v => .jz v
  | .nc, v => .jnc v
  | .c, v => .jc v
  | .po, v => .jpo v
  | .pe, v => .jpe v
  | .p, v => .jp v
  | .m, v => .jm v

/-- Ccc a16 (43_control_flow.md R174). -/
def cccInstr : Cond → Word → Instr
  | .nz, v => .cnz v
  | .z, v => .cz v
  | .nc, v => .cnc v
  | .c, v => .cc v
  | .po, v => .cpo v
  | .pe, v => .cpe v
  | .p, v => .cp v
  | .m, v => .cm v

/-- Rcc (43_control_flow.md R176). -/
def rccInstr : Cond → Instr
  | .nz => .rnz
  | .z => .rz
  | .nc => .rnc
  | .c => .rc
  | .po => .rpo
  | .pe => .rpe
  | .p => .rp
  | .m => .rm

/-- RST nnn (43_control_flow.md R181). -/
def rstInstr : Fin 8 → Instr
  | 0 => .rst0
  | 1 => .rst1
  | 2 => .rst2
  | 3 => .rst3
  | 4 => .rst4
  | 5 => .rst5
  | 6 => .rst6
  | 7 => .rst7

/-- PUSH rp (44_stack_io_machine.md R190). -/
def pushInstr : StackPair → Instr
  | .bc => .pushB
  | .de => .pushD
  | .hl => .pushH
  | .psw => .pushPsw

/-- POP rp (44_stack_io_machine.md R191). -/
def popInstr : StackPair → Instr
  | .bc => .popB
  | .de => .popD
  | .hl => .popH
  | .psw => .popPsw

/-- NOP and its seven aliases (44_stack_io_machine.md R197, R198). -/
def nopInstrs : List Instr := [.nop, .nopAlias08, .nopAlias10, .nopAlias18, .nopAlias20, .nopAlias28, .nopAlias30, .nopAlias38]

/-- JMP and its alias (43_control_flow.md R171, R177). -/
def jmpInstrs (v : Word) : List Instr := [.jmp v, .jmpAlias v]

/-- CALL and its three aliases (43_control_flow.md R173, R178). -/
def callInstrs (v : Word) : List Instr := [.call v, .callAliasDD v, .callAliasED v, .callAliasFD v]

/-- RET and its alias (43_control_flow.md R175, R179). -/
def retInstrs : List Instr := [.ret, .retAlias]

end Sys2Proof
end

