-- ==== Sys2Proof/Machine/Flags.lean ====
section
/-! DEFINITION. The flags byte (10_state.md R29 to R32), the ALU's adder and subtractor (41_arithmetic.md R120, R121), the flag
updates (R122, 42_logical_rotate.md R150), the rotates, the decimal adjust, and the branch test (43_control_flow.md R170). -/

namespace Sys2Proof.Machine

/-- `norm(x) = (x & 0xD5) | 0x02`: bits 1, 3, 5 are 1, 0, 0 (10_state.md R31). -/
def normF (x : Byte) : Byte := (x &&& 0xD5) ||| 0x02

/-- Bit `i` of F written, every other bit as it was (10_state.md R30). -/
def setBit (i : Nat) (v : Bool) (f : Byte) : Byte :=
  if v then f ||| BitVec.twoPow 8 i else f &&& ~~~(BitVec.twoPow 8 i)

/-- S, bit 7 (10_state.md R29). -/
def flagS (f : Byte) : Bool := f.getLsbD 7
/-- Z, bit 6 (10_state.md R29). -/
def flagZ (f : Byte) : Bool := f.getLsbD 6
/-- AC, bit 4 (10_state.md R29). -/
def flagAC (f : Byte) : Bool := f.getLsbD 4
/-- P, bit 2 (10_state.md R29). -/
def flagP (f : Byte) : Bool := f.getLsbD 2
/-- CY, bit 0 (10_state.md R29). -/
def flagCY (f : Byte) : Bool := f.getLsbD 0

/-- `S <- v`. -/
def setS (v : Bool) (f : Byte) : Byte := setBit 7 v f
/-- `Z <- v`. -/
def setZ (v : Bool) (f : Byte) : Byte := setBit 6 v f
/-- `AC <- v`. -/
def setAC (v : Bool) (f : Byte) : Byte := setBit 4 v f
/-- `P <- v`. -/
def setP (v : Bool) (f : Byte) : Byte := setBit 2 v f
/-- `CY <- v`. -/
def setCY (v : Bool) (f : Byte) : Byte := setBit 0 v f

/-- `popcount(v)` of a byte (00_scope.md R12). -/
def popcount (v : Byte) : Nat :=
  ((List.range 8).filter fun i => v.getLsbD i).length

/-- `szp(r)`: Z, S and P of an 8-bit result; P is set when the number of 1 bits is even (10_state.md R32). -/
def szp (r : Byte) (f : Byte) : Byte :=
  setP (popcount r % 2 == 0) (setS (r.getLsbD 7) (setZ (r == 0) f))

/-- The adder `add8(a, b, cin)`: the result, the carry out of bit 7 and the carry from bit 3 (41_arithmetic.md R120). -/
def add8 (a b : Byte) (cin : Bool) : Byte × Bool × Bool :=
  let s := a.toNat + b.toNat + cin.toNat
  (BitVec.ofNat 8 s, s.testBit 8, decide (16 ≤ a.toNat % 16 + b.toNat % 16 + cin.toNat))

/-- The subtractor `sub8(a, b, bin)`: one sum `a + ~b + (1 - bin)`, its carry out of bit 7 complemented, its carry from bit 3
not (41_arithmetic.md R121). -/
def sub8 (a b : Byte) (bin : Bool) : Byte × Bool × Bool :=
  let nb := (~~~b).toNat
  let s := a.toNat + nb + (1 - bin.toNat)
  (BitVec.ofNat 8 s, !s.testBit 8, decide (16 ≤ a.toNat % 16 + nb % 16 + (1 - bin.toNat)))

/-- `acv(ac)`: the computed half-carry, or 0 when `AC_MODE = Zero` (41_arithmetic.md R122). -/
def acv (mode : AcMode) (ac : Bool) : Bool :=
  match mode with
  | .computed => ac
  | .zero => false

/-- `arith_flags(r, cy, ac)` (41_arithmetic.md R122). -/
def arithFlags (mode : AcMode) (r : Byte) (cy ac : Bool) (f : Byte) : Byte :=
  setAC (acv mode ac) (setCY cy (szp r f))

/-- The flag update of INR and DCR: S, Z, P and AC; CY is not written (41_arithmetic.md R133, R134). -/
def stepFlags (mode : AcMode) (r : Byte) (ac : Bool) (f : Byte) : Byte :=
  setAC (acv mode ac) (szp r f)

/-- `logic_flags(r)`: S, Z, P; CY and AC cleared in both modes (42_logical_rotate.md R150). -/
def logicFlags (r : Byte) (f : Byte) : Byte :=
  setAC false (setCY false (szp r f))

/-- RLC on a byte: the result and the new carry (42_logical_rotate.md R157). -/
def rotLeft (a : Byte) : Byte × Bool :=
  ((a <<< 1) ||| (BitVec.ofBool (a.getLsbD 7)).zeroExtend 8, a.getLsbD 7)

/-- RRC on a byte (42_logical_rotate.md R158). -/
def rotRight (a : Byte) : Byte × Bool :=
  ((a >>> 1) ||| ((BitVec.ofBool (a.getLsbD 0)).zeroExtend 8 <<< 7), a.getLsbD 0)

/-- RAL on a byte and CY (42_logical_rotate.md R159). -/
def rotLeftCarry (a : Byte) (cy : Bool) : Byte × Bool :=
  ((a <<< 1) ||| (BitVec.ofBool cy).zeroExtend 8, a.getLsbD 7)

/-- RAR on a byte and CY (42_logical_rotate.md R160). -/
def rotRightCarry (a : Byte) (cy : Bool) : Byte × Bool :=
  ((a >>> 1) ||| ((BitVec.ofBool cy).zeroExtend 8 <<< 7), a.getLsbD 0)

/-- The correction DAA adds to A (41_arithmetic.md R138). -/
def daaCorrection (a : Byte) (ac cy : Bool) : Byte :=
  let lowHalf : Byte := if a.toNat % 16 > 9 ∨ ac = true then 0x06 else 0
  let highHalf : Byte :=
    if a.toNat / 16 > 9 ∨ cy = true ∨ (a.toNat / 16 ≥ 9 ∧ a.toNat % 16 > 9) then 0x60 else 0
  lowHalf ||| highHalf

/-- The carry DAA leaves: 1 once the high correction applies, else CY as it was (41_arithmetic.md R138). -/
def daaCarry (a : Byte) (cy : Bool) : Bool :=
  if a.toNat / 16 > 9 ∨ cy = true ∨ (a.toNat / 16 ≥ 9 ∧ a.toNat % 16 > 9) then true else cy

/-- DAA: the result, the carry and the half-carry (41_arithmetic.md R138). -/
def decimalAdjust (a : Byte) (ac cy : Bool) : Byte × Bool × Bool :=
  let corr := daaCorrection a ac cy
  (BitVec.ofNat 8 (a.toNat + corr.toNat), daaCarry a cy, decide (16 ≤ a.toNat % 16 + corr.toNat % 16))

/-- The branch dispatcher `cond(ccc)` (43_control_flow.md R170). -/
def condHolds (k : Cond) (f : Byte) : Bool :=
  match k with
  | .nz => !flagZ f
  | .z => flagZ f
  | .nc => !flagCY f
  | .c => flagCY f
  | .po => !flagP f
  | .pe => flagP f
  | .p => !flagS f
  | .m => flagS f

end Sys2Proof.Machine
end

