-- ==== Sys2Proof/Machine/Bytes.lean ====
section
/-! DEFINITION. Splitting and joining 16-bit values (00_scope.md R12): `hi`, `lo` and `h ++ l`. -/

namespace Sys2Proof.Machine

/-- `hi(v) = v >> 8` (00_scope.md R12). -/
def hi (v : Word) : Byte := BitVec.ofNat 8 (v.toNat / 256)

/-- `lo(v) = v & 0xFF` (00_scope.md R12; the mask is 0xFF, 90_conflicts.md C4). -/
def lo (v : Word) : Byte := BitVec.ofNat 8 (v.toNat % 256)

/-- `h ++ l = h * 256 + l` (00_scope.md R12). -/
def joinBytes (h l : Byte) : Word := BitVec.ofNat 16 (h.toNat * 256 + l.toNat)

end Sys2Proof.Machine
end

