-- ==== Sys2Proof/Decode.lean ====
section
/-! DEFINITION. The opcode table (30_encoding.md R83), the decoder (R75 to R81, R86) and the encoder. The table stands as
the spec prints it: 16 rows of 16 entries, row = high hex digit, column = low hex digit (R82; durations R256). -/

namespace Sys2Proof

/-- When an opcode has a meaning (30_encoding.md R85; column `available_when` of opcode_table.json). -/
inductive Avail where
  | always
  | daaExecute
  | unlistedExecute
  deriving DecidableEq, Repr

/-- One entry of the opcode table (30_encoding.md R83): `len`, `dur`, `alt`, the mnemonic of R89, when it has a meaning
(R85), and the instruction its operand bytes 1 and 2 complete. -/
structure Row where
  len : Nat
  dur : Nat
  alt : Nat
  avail : Avail
  mnemonic : String
  build : Byte → Byte → Instr

/-- An entry of format `OP` (R76). -/
def rowOp (i : Instr) (dur : Nat) (mnemonic : String) (alt : Nat := 0) (avail : Avail := .always) : Row :=
  { len := 1, dur, alt, avail, mnemonic, build := fun _ _ => i }

/-- An entry of format `OP_D8` (R76, R78, R80). -/
def rowD8 (f : Byte → Instr) (dur : Nat) (mnemonic : String) : Row :=
  { len := 2, dur, alt := 0, avail := .always, mnemonic, build := fun b1 _ => f b1 }

/-- An entry of format `OP_D16`: the operand is `byte2 ++ byte1` (R76, R79). -/
def rowD16 (f : Word → Instr) (dur : Nat) (mnemonic : String) (alt : Nat := 0) : Row :=
  { len := 3, dur, alt, avail := .always, mnemonic, build := fun b1 b2 => f (Machine.joinBytes b2 b1) }

/-- Opcodes 0x00 to 0x0F. -/
def opcodeRow0 : List Row := [
  rowOp .nop 4 "NOP",
  rowD16 .lxiB 10 "LXI B,",
  rowOp .staxB 7 "STAX B",
  rowOp .inxB 5 "INX B",
  rowOp .inrB 5 "INR B",
  rowOp .dcrB 5 "DCR B",
  rowD8 .mviB 7 "MVI B,",
  rowOp .rlc 4 "RLC",
  rowOp .nopAlias08 4 "*NOP",
  rowOp .dadB 10 "DAD B",
  rowOp .ldaxB 7 "LDAX B",
  rowOp .dcxB 5 "DCX B",
  rowOp .inrC 5 "INR C",
  rowOp .dcrC 5 "DCR C",
  rowD8 .mviC 7 "MVI C,",
  rowOp .rrc 4 "RRC" ]

/-- Opcodes 0x10 to 0x1F. -/
def opcodeRow1 : List Row := [
  rowOp .nopAlias10 4 "*NOP",
  rowD16 .lxiD 10 "LXI D,",
  rowOp .staxD 7 "STAX D",
  rowOp .inxD 5 "INX D",
  rowOp .inrD 5 "INR D",
  rowOp .dcrD 5 "DCR D",
  rowD8 .mviD 7 "MVI D,",
  rowOp .ral 4 "RAL",
  rowOp .nopAlias18 4 "*NOP",
  rowOp .dadD 10 "DAD D",
  rowOp .ldaxD 7 "LDAX D",
  rowOp .dcxD 5 "DCX D",
  rowOp .inrE 5 "INR E",
  rowOp .dcrE 5 "DCR E",
  rowD8 .mviE 7 "MVI E,",
  rowOp .rar 4 "RAR" ]

/-- Opcodes 0x20 to 0x2F. -/
def opcodeRow2 : List Row := [
  rowOp .nopAlias20 4 "*NOP",
  rowD16 .lxiH 10 "LXI H,",
  rowD16 .shld 16 "SHLD",
  rowOp .inxH 5 "INX H",
  rowOp .inrH 5 "INR H",
  rowOp .dcrH 5 "DCR H",
  rowD8 .mviH 7 "MVI H,",
  rowOp .daa 4 "DAA" 0 .daaExecute,
  rowOp .nopAlias28 4 "*NOP",
  rowOp .dadH 10 "DAD H",
  rowD16 .lhld 16 "LHLD",
  rowOp .dcxH 5 "DCX H",
  rowOp .inrL 5 "INR L",
  rowOp .dcrL 5 "DCR L",
  rowD8 .mviL 7 "MVI L,",
  rowOp .cma 4 "CMA" ]

/-- Opcodes 0x30 to 0x3F. -/
def opcodeRow3 : List Row := [
  rowOp .nopAlias30 4 "*NOP",
  rowD16 .lxiSp 10 "LXI SP,",
  rowD16 .sta 13 "STA",
  rowOp .inxSp 5 "INX SP",
  rowOp .inrM 10 "INR M",
  rowOp .dcrM 10 "DCR M",
  rowD8 .mviM 10 "MVI M,",
  rowOp .stc 4 "STC",
  rowOp .nopAlias38 4 "*NOP",
  rowOp .dadSp 10 "DAD SP",
  rowD16 .lda 13 "LDA",
  rowOp .dcxSp 5 "DCX SP",
  rowOp .inrA 5 "INR A",
  rowOp .dcrA 5 "DCR A",
  rowD8 .mviA 7 "MVI A,",
  rowOp .cmc 4 "CMC" ]

/-- Opcodes 0x40 to 0x4F. -/
def opcodeRow4 : List Row := [
  rowOp .movBB 5 "MOV B,B",
  rowOp .movBC 5 "MOV B,C",
  rowOp .movBD 5 "MOV B,D",
  rowOp .movBE 5 "MOV B,E",
  rowOp .movBH 5 "MOV B,H",
  rowOp .movBL 5 "MOV B,L",
  rowOp .movBM 7 "MOV B,M",
  rowOp .movBA 5 "MOV B,A",
  rowOp .movCB 5 "MOV C,B",
  rowOp .movCC 5 "MOV C,C",
  rowOp .movCD 5 "MOV C,D",
  rowOp .movCE 5 "MOV C,E",
  rowOp .movCH 5 "MOV C,H",
  rowOp .movCL 5 "MOV C,L",
  rowOp .movCM 7 "MOV C,M",
  rowOp .movCA 5 "MOV C,A" ]

/-- Opcodes 0x50 to 0x5F. -/
def opcodeRow5 : List Row := [
  rowOp .movDB 5 "MOV D,B",
  rowOp .movDC 5 "MOV D,C",
  rowOp .movDD 5 "MOV D,D",
  rowOp .movDE 5 "MOV D,E",
  rowOp .movDH 5 "MOV D,H",
  rowOp .movDL 5 "MOV D,L",
  rowOp .movDM 7 "MOV D,M",
  rowOp .movDA 5 "MOV D,A",
  rowOp .movEB 5 "MOV E,B",
  rowOp .movEC 5 "MOV E,C",
  rowOp .movED 5 "MOV E,D",
  rowOp .movEE 5 "MOV E,E",
  rowOp .movEH 5 "MOV E,H",
  rowOp .movEL 5 "MOV E,L",
  rowOp .movEM 7 "MOV E,M",
  rowOp .movEA 5 "MOV E,A" ]

/-- Opcodes 0x60 to 0x6F. -/
def opcodeRow6 : List Row := [
  rowOp .movHB 5 "MOV H,B",
  rowOp .movHC 5 "MOV H,C",
  rowOp .movHD 5 "MOV H,D",
  rowOp .movHE 5 "MOV H,E",
  rowOp .movHH 5 "MOV H,H",
  rowOp .movHL 5 "MOV H,L",
  rowOp .movHM 7 "MOV H,M",
  rowOp .movHA 5 "MOV H,A",
  rowOp .movLB 5 "MOV L,B",
  rowOp .movLC 5 "MOV L,C",
  rowOp .movLD 5 "MOV L,D",
  rowOp .movLE 5 "MOV L,E",
  rowOp .movLH 5 "MOV L,H",
  rowOp .movLL 5 "MOV L,L",
  rowOp .movLM 7 "MOV L,M",
  rowOp .movLA 5 "MOV L,A" ]

/-- Opcodes 0x70 to 0x7F. -/
def opcodeRow7 : List Row := [
  rowOp .movMB 7 "MOV M,B",
  rowOp .movMC 7 "MOV M,C",
  rowOp .movMD 7 "MOV M,D",
  rowOp .movME 7 "MOV M,E",
  rowOp .movMH 7 "MOV M,H",
  rowOp .movML 7 "MOV M,L",
  rowOp .hlt 7 "HLT",
  rowOp .movMA 7 "MOV M,A",
  rowOp .movAB 5 "MOV A,B",
  rowOp .movAC 5 "MOV A,C",
  rowOp .movAD 5 "MOV A,D",
  rowOp .movAE 5 "MOV A,E",
  rowOp .movAH 5 "MOV A,H",
  rowOp .movAL 5 "MOV A,L",
  rowOp .movAM 7 "MOV A,M",
  rowOp .movAA 5 "MOV A,A" ]

/-- Opcodes 0x80 to 0x8F. -/
def opcodeRow8 : List Row := [
  rowOp .addB 4 "ADD B",
  rowOp .addC 4 "ADD C",
  rowOp .addD 4 "ADD D",
  rowOp .addE 4 "ADD E",
  rowOp .addH 4 "ADD H",
  rowOp .addL 4 "ADD L",
  rowOp .addM 7 "ADD M",
  rowOp .addA 4 "ADD A",
  rowOp .adcB 4 "ADC B",
  rowOp .adcC 4 "ADC C",
  rowOp .adcD 4 "ADC D",
  rowOp .adcE 4 "ADC E",
  rowOp .adcH 4 "ADC H",
  rowOp .adcL 4 "ADC L",
  rowOp .adcM 7 "ADC M",
  rowOp .adcA 4 "ADC A" ]

/-- Opcodes 0x90 to 0x9F. -/
def opcodeRow9 : List Row := [
  rowOp .subB 4 "SUB B",
  rowOp .subC 4 "SUB C",
  rowOp .subD 4 "SUB D",
  rowOp .subE 4 "SUB E",
  rowOp .subH 4 "SUB H",
  rowOp .subL 4 "SUB L",
  rowOp .subM 7 "SUB M",
  rowOp .subA 4 "SUB A",
  rowOp .sbbB 4 "SBB B",
  rowOp .sbbC 4 "SBB C",
  rowOp .sbbD 4 "SBB D",
  rowOp .sbbE 4 "SBB E",
  rowOp .sbbH 4 "SBB H",
  rowOp .sbbL 4 "SBB L",
  rowOp .sbbM 7 "SBB M",
  rowOp .sbbA 4 "SBB A" ]

/-- Opcodes 0xA0 to 0xAF. -/
def opcodeRowA : List Row := [
  rowOp .anaB 4 "ANA B",
  rowOp .anaC 4 "ANA C",
  rowOp .anaD 4 "ANA D",
  rowOp .anaE 4 "ANA E",
  rowOp .anaH 4 "ANA H",
  rowOp .anaL 4 "ANA L",
  rowOp .anaM 7 "ANA M",
  rowOp .anaA 4 "ANA A",
  rowOp .xraB 4 "XRA B",
  rowOp .xraC 4 "XRA C",
  rowOp .xraD 4 "XRA D",
  rowOp .xraE 4 "XRA E",
  rowOp .xraH 4 "XRA H",
  rowOp .xraL 4 "XRA L",
  rowOp .xraM 7 "XRA M",
  rowOp .xraA 4 "XRA A" ]

/-- Opcodes 0xB0 to 0xBF. -/
def opcodeRowB : List Row := [
  rowOp .oraB 4 "ORA B",
  rowOp .oraC 4 "ORA C",
  rowOp .oraD 4 "ORA D",
  rowOp .oraE 4 "ORA E",
  rowOp .oraH 4 "ORA H",
  rowOp .oraL 4 "ORA L",
  rowOp .oraM 7 "ORA M",
  rowOp .oraA 4 "ORA A",
  rowOp .cmpB 4 "CMP B",
  rowOp .cmpC 4 "CMP C",
  rowOp .cmpD 4 "CMP D",
  rowOp .cmpE 4 "CMP E",
  rowOp .cmpH 4 "CMP H",
  rowOp .cmpL 4 "CMP L",
  rowOp .cmpM 7 "CMP M",
  rowOp .cmpA 4 "CMP A" ]

/-- Opcodes 0xC0 to 0xCF. -/
def opcodeRowC : List Row := [
  rowOp .rnz 11 "RNZ" 5,
  rowOp .popB 10 "POP B",
  rowD16 .jnz 10 "JNZ" 10,
  rowD16 .jmp 10 "JMP",
  rowD16 .cnz 17 "CNZ" 11,
  rowOp .pushB 11 "PUSH B",
  rowD8 .adi 7 "ADI",
  rowOp .rst0 11 "RST 0" 0 .unlistedExecute,
  rowOp .rz 11 "RZ" 5,
  rowOp .ret 10 "RET",
  rowD16 .jz 10 "JZ" 10,
  rowD16 .jmpAlias 10 "*JMP",
  rowD16 .cz 17 "CZ" 11,
  rowD16 .call 17 "CALL",
  rowD8 .aci 7 "ACI",
  rowOp .rst1 11 "RST 1" 0 .unlistedExecute ]

/-- Opcodes 0xD0 to 0xDF. -/
def opcodeRowD : List Row := [
  rowOp .rnc 11 "RNC" 5,
  rowOp .popD 10 "POP D",
  rowD16 .jnc 10 "JNC" 10,
  rowD8 .outp 10 "OUT",
  rowD16 .cnc 17 "CNC" 11,
  rowOp .pushD 11 "PUSH D",
  rowD8 .sui 7 "SUI",
  rowOp .rst2 11 "RST 2" 0 .unlistedExecute,
  rowOp .rc 11 "RC" 5,
  rowOp .retAlias 10 "*RET",
  rowD16 .jc 10 "JC" 10,
  rowD8 .inp 10 "IN",
  rowD16 .cc 17 "CC" 11,
  rowD16 .callAliasDD 17 "*CALL",
  rowD8 .sbi 7 "SBI",
  rowOp .rst3 11 "RST 3" 0 .unlistedExecute ]

/-- Opcodes 0xE0 to 0xEF. -/
def opcodeRowE : List Row := [
  rowOp .rpo 11 "RPO" 5,
  rowOp .popH 10 "POP H",
  rowD16 .jpo 10 "JPO" 10,
  rowOp .xthl 18 "XTHL" 0 .unlistedExecute,
  rowD16 .cpo 17 "CPO" 11,
  rowOp .pushH 11 "PUSH H",
  rowD8 .ani 7 "ANI",
  rowOp .rst4 11 "RST 4" 0 .unlistedExecute,
  rowOp .rpe 11 "RPE" 5,
  rowOp .pchl 5 "PCHL" 0 .unlistedExecute,
  rowD16 .jpe 10 "JPE" 10,
  rowOp .xchg 4 "XCHG",
  rowD16 .cpe 17 "CPE" 11,
  rowD16 .callAliasED 17 "*CALL",
  rowD8 .xri 7 "XRI",
  rowOp .rst5 11 "RST 5" 0 .unlistedExecute ]

/-- Opcodes 0xF0 to 0xFF. -/
def opcodeRowF : List Row := [
  rowOp .rp 11 "RP" 5,
  rowOp .popPsw 10 "POP PSW",
  rowD16 .jp 10 "JP" 10,
  rowOp .di 4 "DI" 0 .unlistedExecute,
  rowD16 .cp 17 "CP" 11,
  rowOp .pushPsw 11 "PUSH PSW",
  rowD8 .ori 7 "ORI",
  rowOp .rst6 11 "RST 6" 0 .unlistedExecute,
  rowOp .rm 11 "RM" 5,
  rowOp .sphl 5 "SPHL" 0 .unlistedExecute,
  rowD16 .jm 10 "JM" 10,
  rowOp .ei 4 "EI" 0 .unlistedExecute,
  rowD16 .cm 17 "CM" 11,
  rowD16 .callAliasFD 17 "*CALL",
  rowD8 .cpi 7 "CPI",
  rowOp .rst7 11 "RST 7" 0 .unlistedExecute ]

/-- The opcode table: 256 entries keyed by the raw opcode byte (30_encoding.md R83). -/
def opcodeTable : List Row :=
  opcodeRow0 ++ opcodeRow1 ++ opcodeRow2 ++ opcodeRow3 ++ opcodeRow4 ++ opcodeRow5 ++ opcodeRow6 ++ opcodeRow7 ++
  opcodeRow8 ++ opcodeRow9 ++ opcodeRowA ++ opcodeRowB ++ opcodeRowC ++ opcodeRowD ++ opcodeRowE ++ opcodeRowF

/-- The entry of an opcode byte; the default is never reached, since the table has an entry for every byte (R83). -/
def rowOf (op : Byte) : Row := opcodeTable.getD op.toNat (rowOp .nop 4 "NOP")

/-- The instruction an opcode byte and the two bytes after it spell; a shorter instruction does not look at the bytes
beyond its length (R86). -/
def decodeOp (op b1 b2 : Byte) : Instr := (rowOf op).build b1 b2

/-- Why a byte sequence is not an instruction: every opcode byte decodes (R83), so only missing bytes are refused. -/
inductive DecodeError where
  /-- No byte at all. -/
  | noOpcode
  /-- The opcode byte needs more operand bytes than there are. -/
  | missingOperand (opcode : Byte)
  deriving DecidableEq, Repr

/-- Decode the first instruction of a byte sequence and give the bytes left over (30_encoding.md R75, R86). -/
def decode : List Byte → Except DecodeError (Instr × List Byte)
  | [] => .error .noOpcode
  | op :: rest =>
    match (rowOf op).len, rest with
    | 1, rest => .ok (decodeOp op 0 0, rest)
    | 2, b1 :: rest => .ok (decodeOp op b1 0, rest)
    | 3, b1 :: b2 :: rest => .ok (decodeOp op b1 b2, rest)
    | _, _ => .error (.missingOperand op)

/-- The bytes of `spec/opcode_table.json`'s numbering: bit 0 is the least significant bit of the first byte; every bit at
or above `nbits` is 0; an instruction has at most three bytes. -/
def tableBytes (nbits w : Nat) : List Byte :=
  let v := w % 2 ^ nbits
  [BitVec.ofNat 8 v, BitVec.ofNat 8 (v / 256), BitVec.ofNat 8 (v / 65536)]

/-- The instruction the decoder reads from an instruction whose bits are `w`, numbered as the opcode table does. -/
def decodeTableWord (nbits w : Nat) : Option Instr :=
  match decode (tableBytes nbits w) with
  | .ok (i, _) => some i
  | .error _ => none

/-- The opcode byte of an instruction (30_encoding.md R82). -/
def opcodeOf : Instr → Byte
  | .nop => 0x00
  | .lxiB _ => 0x01
  | .staxB => 0x02
  | .inxB => 0x03
  | .inrB => 0x04
  | .dcrB => 0x05
  | .mviB _ => 0x06
  | .rlc => 0x07
  | .nopAlias08 => 0x08
  | .dadB => 0x09
  | .ldaxB => 0x0A
  | .dcxB => 0x0B
  | .inrC => 0x0C
  | .dcrC => 0x0D
  | .mviC _ => 0x0E
  | .rrc => 0x0F
  | .nopAlias10 => 0x10
  | .lxiD _ => 0x11
  | .staxD => 0x12
  | .inxD => 0x13
  | .inrD => 0x14
  | .dcrD => 0x15
  | .mviD _ => 0x16
  | .ral => 0x17
  | .nopAlias18 => 0x18
  | .dadD => 0x19
  | .ldaxD => 0x1A
  | .dcxD => 0x1B
  | .inrE => 0x1C
  | .dcrE => 0x1D
  | .mviE _ => 0x1E
  | .rar => 0x1F
  | .nopAlias20 => 0x20
  | .lxiH _ => 0x21
  | .shld _ => 0x22
  | .inxH => 0x23
  | .inrH => 0x24
  | .dcrH => 0x25
  | .mviH _ => 0x26
  | .daa => 0x27
  | .nopAlias28 => 0x28
  | .dadH => 0x29
  | .lhld _ => 0x2A
  | .dcxH => 0x2B
  | .inrL => 0x2C
  | .dcrL => 0x2D
  | .mviL _ => 0x2E
  | .cma => 0x2F
  | .nopAlias30 => 0x30
  | .lxiSp _ => 0x31
  | .sta _ => 0x32
  | .inxSp => 0x33
  | .inrM => 0x34
  | .dcrM => 0x35
  | .mviM _ => 0x36
  | .stc => 0x37
  | .nopAlias38 => 0x38
  | .dadSp => 0x39
  | .lda _ => 0x3A
  | .dcxSp => 0x3B
  | .inrA => 0x3C
  | .dcrA => 0x3D
  | .mviA _ => 0x3E
  | .cmc => 0x3F
  | .movBB => 0x40
  | .movBC => 0x41
  | .movBD => 0x42
  | .movBE => 0x43
  | .movBH => 0x44
  | .movBL => 0x45
  | .movBM => 0x46
  | .movBA => 0x47
  | .movCB => 0x48
  | .movCC => 0x49
  | .movCD => 0x4A
  | .movCE => 0x4B
  | .movCH => 0x4C
  | .movCL => 0x4D
  | .movCM => 0x4E
  | .movCA => 0x4F
  | .movDB => 0x50
  | .movDC => 0x51
  | .movDD => 0x52
  | .movDE => 0x53
  | .movDH => 0x54
  | .movDL => 0x55
  | .movDM => 0x56
  | .movDA => 0x57
  | .movEB => 0x58
  | .movEC => 0x59
  | .movED => 0x5A
  | .movEE => 0x5B
  | .movEH => 0x5C
  | .movEL => 0x5D
  | .movEM => 0x5E
  | .movEA => 0x5F
  | .movHB => 0x60
  | .movHC => 0x61
  | .movHD => 0x62
  | .movHE => 0x63
  | .movHH => 0x64
  | .movHL => 0x65
  | .movHM => 0x66
  | .movHA => 0x67
  | .movLB => 0x68
  | .movLC => 0x69
  | .movLD => 0x6A
  | .movLE => 0x6B
  | .movLH => 0x6C
  | .movLL => 0x6D
  | .movLM => 0x6E
  | .movLA => 0x6F
  | .movMB => 0x70
  | .movMC => 0x71
  | .movMD => 0x72
  | .movME => 0x73
  | .movMH => 0x74
  | .movML => 0x75
  | .hlt => 0x76
  | .movMA => 0x77
  | .movAB => 0x78
  | .movAC => 0x79
  | .movAD => 0x7A
  | .movAE => 0x7B
  | .movAH => 0x7C
  | .movAL => 0x7D
  | .movAM => 0x7E
  | .movAA => 0x7F
  | .addB => 0x80
  | .addC => 0x81
  | .addD => 0x82
  | .addE => 0x83
  | .addH => 0x84
  | .addL => 0x85
  | .addM => 0x86
  | .addA => 0x87
  | .adcB => 0x88
  | .adcC => 0x89
  | .adcD => 0x8A
  | .adcE => 0x8B
  | .adcH => 0x8C
  | .adcL => 0x8D
  | .adcM => 0x8E
  | .adcA => 0x8F
  | .subB => 0x90
  | .subC => 0x91
  | .subD => 0x92
  | .subE => 0x93
  | .subH => 0x94
  | .subL => 0x95
  | .subM => 0x96
  | .subA => 0x97
  | .sbbB => 0x98
  | .sbbC => 0x99
  | .sbbD => 0x9A
  | .sbbE => 0x9B
  | .sbbH => 0x9C
  | .sbbL => 0x9D
  | .sbbM => 0x9E
  | .sbbA => 0x9F
  | .anaB => 0xA0
  | .anaC => 0xA1
  | .anaD => 0xA2
  | .anaE => 0xA3
  | .anaH => 0xA4
  | .anaL => 0xA5
  | .anaM => 0xA6
  | .anaA => 0xA7
  | .xraB => 0xA8
  | .xraC => 0xA9
  | .xraD => 0xAA
  | .xraE => 0xAB
  | .xraH => 0xAC
  | .xraL => 0xAD
  | .xraM => 0xAE
  | .xraA => 0xAF
  | .oraB => 0xB0
  | .oraC => 0xB1
  | .oraD => 0xB2
  | .oraE => 0xB3
  | .oraH => 0xB4
  | .oraL => 0xB5
  | .oraM => 0xB6
  | .oraA => 0xB7
  | .cmpB => 0xB8
  | .cmpC => 0xB9
  | .cmpD => 0xBA
  | .cmpE => 0xBB
  | .cmpH => 0xBC
  | .cmpL => 0xBD
  | .cmpM => 0xBE
  | .cmpA => 0xBF
  | .rnz => 0xC0
  | .popB => 0xC1
  | .jnz _ => 0xC2
  | .jmp _ => 0xC3
  | .cnz _ => 0xC4
  | .pushB => 0xC5
  | .adi _ => 0xC6
  | .rst0 => 0xC7
  | .rz => 0xC8
  | .ret => 0xC9
  | .jz _ => 0xCA
  | .jmpAlias _ => 0xCB
  | .cz _ => 0xCC
  | .call _ => 0xCD
  | .aci _ => 0xCE
  | .rst1 => 0xCF
  | .rnc => 0xD0
  | .popD => 0xD1
  | .jnc _ => 0xD2
  | .outp _ => 0xD3
  | .cnc _ => 0xD4
  | .pushD => 0xD5
  | .sui _ => 0xD6
  | .rst2 => 0xD7
  | .rc => 0xD8
  | .retAlias => 0xD9
  | .jc _ => 0xDA
  | .inp _ => 0xDB
  | .cc _ => 0xDC
  | .callAliasDD _ => 0xDD
  | .sbi _ => 0xDE
  | .rst3 => 0xDF
  | .rpo => 0xE0
  | .popH => 0xE1
  | .jpo _ => 0xE2
  | .xthl => 0xE3
  | .cpo _ => 0xE4
  | .pushH => 0xE5
  | .ani _ => 0xE6
  | .rst4 => 0xE7
  | .rpe => 0xE8
  | .pchl => 0xE9
  | .jpe _ => 0xEA
  | .xchg => 0xEB
  | .cpe _ => 0xEC
  | .callAliasED _ => 0xED
  | .xri _ => 0xEE
  | .rst5 => 0xEF
  | .rp => 0xF0
  | .popPsw => 0xF1
  | .jp _ => 0xF2
  | .di => 0xF3
  | .cp _ => 0xF4
  | .pushPsw => 0xF5
  | .ori _ => 0xF6
  | .rst6 => 0xF7
  | .rm => 0xF8
  | .sphl => 0xF9
  | .jm _ => 0xFA
  | .ei => 0xFB
  | .cm _ => 0xFC
  | .callAliasFD _ => 0xFD
  | .cpi _ => 0xFE
  | .rst7 => 0xFF

/-- The operand bytes of an instruction: an immediate word has its low byte first (R76, R79). -/
def operandBytes : Instr → List Byte
  | .mviB v | .mviC v | .mviD v | .mviE v | .mviH v | .mviL v | .mviM v | .mviA v | .adi v | .aci v | .outp v
  | .sui v | .inp v | .sbi v | .ani v | .xri v | .ori v | .cpi v => [v]
  | .lxiB v | .lxiD v | .lxiH v | .shld v | .lhld v | .lxiSp v | .sta v | .lda v | .jnz v | .jmp v | .cnz v
  | .jz v | .jmpAlias v | .cz v | .call v | .jnc v | .cnc v | .jc v | .cc v | .callAliasDD v | .jpo v
  | .cpo v | .jpe v | .cpe v | .callAliasED v | .jp v | .cp v | .jm v | .cm v | .callAliasFD v => [Machine.lo v, Machine.hi v]
  | .nop | .staxB | .inxB | .inrB | .dcrB | .rlc | .nopAlias08 | .dadB | .ldaxB | .dcxB | .inrC | .dcrC
  | .rrc | .nopAlias10 | .staxD | .inxD | .inrD | .dcrD | .ral | .nopAlias18 | .dadD | .ldaxD | .dcxD | .inrE
  | .dcrE | .rar | .nopAlias20 | .inxH | .inrH | .dcrH | .daa | .nopAlias28 | .dadH | .dcxH | .inrL | .dcrL
  | .cma | .nopAlias30 | .inxSp | .inrM | .dcrM | .stc | .nopAlias38 | .dadSp | .dcxSp | .inrA | .dcrA | .cmc
  | .movBB | .movBC | .movBD | .movBE | .movBH | .movBL | .movBM | .movBA | .movCB | .movCC | .movCD | .movCE
  | .movCH | .movCL | .movCM | .movCA | .movDB | .movDC | .movDD | .movDE | .movDH | .movDL | .movDM | .movDA
  | .movEB | .movEC | .movED | .movEE | .movEH | .movEL | .movEM | .movEA | .movHB | .movHC | .movHD | .movHE
  | .movHH | .movHL | .movHM | .movHA | .movLB | .movLC | .movLD | .movLE | .movLH | .movLL | .movLM | .movLA
  | .movMB | .movMC | .movMD | .movME | .movMH | .movML | .hlt | .movMA | .movAB | .movAC | .movAD | .movAE
  | .movAH | .movAL | .movAM | .movAA | .addB | .addC | .addD | .addE | .addH | .addL | .addM | .addA | .adcB
  | .adcC | .adcD | .adcE | .adcH | .adcL | .adcM | .adcA | .subB | .subC | .subD | .subE | .subH | .subL
  | .subM | .subA | .sbbB | .sbbC | .sbbD | .sbbE | .sbbH | .sbbL | .sbbM | .sbbA | .anaB | .anaC | .anaD
  | .anaE | .anaH | .anaL | .anaM | .anaA | .xraB | .xraC | .xraD | .xraE | .xraH | .xraL | .xraM | .xraA
  | .oraB | .oraC | .oraD | .oraE | .oraH | .oraL | .oraM | .oraA | .cmpB | .cmpC | .cmpD | .cmpE | .cmpH
  | .cmpL | .cmpM | .cmpA | .rnz | .popB | .pushB | .rst0 | .rz | .ret | .rst1 | .rnc | .popD | .pushD
  | .rst2 | .rc | .retAlias | .rst3 | .rpo | .popH | .xthl | .pushH | .rst4 | .rpe | .pchl | .xchg | .rst5
  | .rp | .popPsw | .di | .pushPsw | .rst6 | .rm | .sphl | .ei | .rst7 => []

/-- The bytes of an instruction, byte 0 first (30_encoding.md R76). -/
def encode (i : Instr) : List Byte := opcodeOf i :: operandBytes i

/-- `len` of an instruction's table entry (R75). -/
def lenOf (i : Instr) : Nat := (rowOf (opcodeOf i)).len

/-- `dur` of an instruction's table entry (70_reset_and_hazards.md R256). -/
def durOf (i : Instr) : Nat := (rowOf (opcodeOf i)).dur

/-- `alt` of an instruction's table entry (70_reset_and_hazards.md R255, R256). -/
def altOf (i : Instr) : Nat := (rowOf (opcodeOf i)).alt

/-- The 3-bit code of a register operand (10_state.md R21). -/
def codeOfReg8 : Reg8 → BitVec 3
  | .b => 0 | .c => 1 | .d => 2 | .e => 3 | .h => 4 | .l => 5 | .m => 6 | .a => 7

/-- The 2-bit index of a register pair (10_state.md R25). -/
def codeOfPair : Pair → BitVec 2
  | .bc => 0 | .de => 1 | .hl => 2 | .sp => 3

/-- The 2-bit index of a pair in PUSH and POP (10_state.md R25). -/
def codeOfStackPair : StackPair → BitVec 2
  | .bc => 0 | .de => 1 | .hl => 2 | .psw => 3

/-- The 3-bit condition code (43_control_flow.md R170). -/
def codeOfCond : Cond → BitVec 3
  | .nz => 0 | .z => 1 | .nc => 2 | .c => 3 | .po => 4 | .pe => 5 | .p => 6 | .m => 7

/-- The 3-bit ALU operation number (30_encoding.md R81). -/
def codeOfAluOp : AluOp → BitVec 3
  | .add => 0 | .adc => 1 | .sub => 2 | .sbb => 3 | .ana => 4 | .xra => 5 | .ora => 6 | .cmp => 7

end Sys2Proof
end

