-- ==== Sys2Proof/Machine/Defaults.lean ====
section
/-! DEFINITION. The parameters of `State.reset`: the spec's defaults, and a named choice where it leaves the parameter open. -/

namespace Sys2Proof.Machine

/-- MEM_SIZE 65536, LOAD_OFFSET 0, DAA_MODE Fault and UNLISTED_OPS Fault are the spec's defaults (00_scope.md R5, R6, R8, R9).
AC_MODE is OPEN (R7): Computed, what the source says an implementation SHOULD do, DESIGN CHOICE (log entry 2). IO is OPEN
(R10): the collaborator of which nothing is assumed, DESIGN CHOICE (log entry 4). -/
def defaultParams : Params :=
  { memSize := 65536, loadOffset := 0, acMode := .computed, daaMode := .fault, unlistedOps := .fault, io := .external }

end Sys2Proof.Machine
end

