-- ==== Sys2Proof/Machine/Memory.lean ====
section
/-! DEFINITION. The memory image as data: (address, byte) pairs with strictly rising addresses and no entry equal to what
an unlisted address reads as (20_memory.md R50, R54). Bounds and faults are in Machine/Ops.lean. -/

namespace Sys2Proof.Machine

/-- The bytes of the memory image, listed sparsely (20_memory.md R50). -/
abbrev Memory := List Host.Cell

/-- DESIGN CHOICE (log entry 5), unsafe: what an unlisted address reads as. The bytes INIT_MEM gives (10_state.md R44) are
an argument of the launch and are listed where they differ from this byte. -/
def unlistedByte : Byte := 0

/-- The byte at an address. -/
def readMem : Memory → Nat → Byte
  | [], _ => unlistedByte
  | (k, w) :: m, a => if k = a then w else readMem m a

/-- The memory in which one address holds the byte, every other address as before (20_memory.md R54). -/
def writeMem : Memory → Nat → Byte → Memory
  | [], a, v => if v = unlistedByte then [] else [(a, v)]
  | (k, w) :: m, a, v =>
    if a < k then
      if v = unlistedByte then (k, w) :: m else (a, v) :: (k, w) :: m
    else if a = k then
      if v = unlistedByte then m else (a, v) :: m
    else (k, w) :: writeMem m a v

/-- The memory with a list of bytes written from an address upward. -/
def writeBytes : Memory → Nat → List Byte → Memory
  | m, _, [] => m
  | m, a, v :: vs => writeBytes (writeMem m a v) (a + 1) vs

/-- The memory with a list of cells written in order. -/
def writeCells : Memory → List Host.Cell → Memory
  | m, [] => m
  | m, (a, v) :: cs => writeCells (writeMem m a v) cs

/-- `n` bytes from an address upward. -/
def bytesAt (m : Memory) : Nat → Nat → List Byte
  | _, 0 => []
  | a, n + 1 => readMem m a :: bytesAt m (a + 1) n

/-- Every listed address is at or above `lo`, addresses rise strictly, and no entry is the unlisted byte. -/
def wfFrom : Nat → Memory → Bool
  | _, [] => true
  | lo, (k, w) :: m => decide (lo ≤ k) && decide (w ≠ unlistedByte) && wfFrom (k + 1) m

/-- The canonical form of memory: equal memories are equal lists. -/
def Memory.wf (m : Memory) : Bool := wfFrom 0 m

/-- Every listed address is below a bound. -/
def boundedBy (n : Nat) (m : Memory) : Bool := m.all fun c => decide (c.1 < n)

end Sys2Proof.Machine
end

