-- ==== Sys2Proof/Machine/State.lean ====
section
/-! DEFINITION. The state of one interpreter instance (10_state.md R20) as plain data, the fault record (60_exceptions.md
R212), the reasons a step can stop, and the state right after reset (70_reset_and_hazards.md R241). -/

namespace Sys2Proof.Machine

/-- The fault kinds the core raises (60_exceptions.md R211). -/
inductive FaultKind where
  /-- The opcode byte has no meaning under the parameters (R213). -/
  | undefinedOpcode
  /-- A push with `SP <= 1` (R214). -/
  | stackUnderflowProtection
  /-- A pop, or XTHL, with `SP >= 0xFFFE` (R215). -/
  | stackPopOutOfRange
  /-- A memory access at an address `>= MEM_SIZE` (R216, R217). -/
  | memoryOutOfRange
  /-- A fetch that would advance PC past 0xFFFF (R216). -/
  | pcOverflow
  deriving DecidableEq, Repr

/-- The fault record (60_exceptions.md R212). The record's code is a function of its kind, `codeOfFault` in Machine/Ops.lean. -/
structure FaultRecord where
  kind : FaultKind
  /-- The address of the instruction's opcode byte. -/
  pc : Word
  /-- The byte at that address, or none when the opcode fetch itself faulted. -/
  opcode : Option Byte
  /-- The SP value, the address or the PC value of R211, or none. -/
  detail : Option Nat
  deriving DecidableEq, Repr

/-- The execution state (10_state.md R38). -/
inductive RunState where
  | running
  | halted
  | faulted (rec : FaultRecord)
  deriving DecidableEq, Repr

/-- The state tuple of 10_state.md R20; `ioReads` is the model's own (log entry 4) and `params` are the launch parameters,
which a step reads and never writes (log entry 1). -/
structure State where
  a : Byte
  b : Byte
  c : Byte
  d : Byte
  e : Byte
  h : Byte
  l : Byte
  /-- The flags byte (R29). -/
  f : Byte
  /-- The address of the next byte to fetch (R34). -/
  pc : Word
  sp : Word
  /-- The memory image (20_memory.md R50), listed sparsely. -/
  mem : List Host.Cell
  run : RunState
  /-- The cycle steps still owed to the previous instruction (R39). -/
  wait : Nat
  /-- INTE, which exists only when UNLISTED_OPS = Execute (R40); log entry 13. -/
  inte : Bool
  /-- The OUT events, oldest first: (port, value) (44_stack_io_machine.md R195). -/
  ioLog : List (Byte × Byte)
  /-- How many bytes have been drawn from the external collaborator: the model's own counter. -/
  ioReads : Nat
  params : Params
  deriving DecidableEq, Repr

/-- Why a step answers no next state: the spec defines no step there (60_exceptions.md R232). The core's own faults are no
such stop: they enter `RunState.faulted`, a next state (log entry 7). -/
inductive Fault where
  /-- Raised by `step` in a Halted state ("further step() calls are not defined"). Safe: the machine has no step there. -/
  | noStepFromHalted
  /-- Raised by `step` in a Faulted state ("abort; terminal"). Safe: the machine has no step there. -/
  | noStepFromFaulted (rec : FaultRecord)
  deriving DecidableEq, Repr

/-- Why a request is turned away without a meaning. -/
inductive Refusal where
  /-- An arm of `exec` whose instruction has no meaning yet; no arm is so. Safe. -/
  | notModelled (mnemonic : String)
  /-- Raised by `launch` when the parameters are not permitted (00_scope.md R5, R8). Safe. -/
  | parametersNotPermitted
  /-- Raised by `launch` when the image does not fit in memory (70_reset_and_hazards.md R240). Safe. -/
  | imageDoesNotFit
  deriving DecidableEq, Repr

/-- The state right after reset for given parameters and memory (70_reset_and_hazards.md R241). -/
def State.atLaunch (p : Params) (m : List Host.Cell) : State :=
  { a := 0, b := 0, c := 0, d := 0, e := 0, h := 0, l := 0, f := 0x02
    pc := p.loadOffset, sp := p.loadOffset
    mem := m, run := .running, wait := 0, inte := false, ioLog := [], ioReads := 0, params := p }

/-- The state right after reset with the default parameters, no image and nothing listed in memory (log entry 6). -/
def State.reset : State := State.atLaunch defaultParams []

end Sys2Proof.Machine
end

