-- ==== Sys2Proof/Machine/Ops.lean ====
section
/-! DEFINITION. The named operations every instruction uses: memory access (20_memory.md R52, R53), fetch (R56, R57), the
stack (R60, R61), raising a fault (60_exceptions.md R212), and completing an instruction (30_encoding.md R88,
70_reset_and_hazards.md R250). A fault has no return (60_exceptions.md R223), so nothing stands beside `takeFault`. -/

namespace Sys2Proof.Machine

/-- What `raise K(detail)` carries (00_scope.md R13). -/
structure Raise where
  kind : FaultKind
  detail : Option Nat
  deriving DecidableEq, Repr

/-- The handler results (30_encoding.md R88): 0, 1 and 2. -/
inductive HandlerResult where
  | primary
  | alternate
  | halt
  deriving DecidableEq, Repr

/-- The cause code of a fault kind (60_exceptions.md R211). -/
def codeOfFault : FaultKind → Nat
  | .undefinedOpcode => 1
  | .stackUnderflowProtection => 2
  | .stackPopOutOfRange => 3
  | .memoryOutOfRange => 4
  | .pcOverflow => 5

/-- The body of an instruction: run on the state whose PC is past the instruction's bytes, it raises or answers a state and
a handler result. -/
abbrev Body := State → Except Raise (State × HandlerResult)

/-- `MemRead(addr, 1)` (20_memory.md R52). -/
def memRead (addr : Nat) (s : State) : Except Raise Byte :=
  if addr < s.params.memSize then .ok (readMem s.mem addr)
  else .error { kind := .memoryOutOfRange, detail := some addr }

/-- `MemWrite(addr, 1, v)` (20_memory.md R53). -/
def memWrite (addr : Nat) (v : Byte) (s : State) : Except Raise State :=
  if addr < s.params.memSize then .ok { s with mem := writeMem s.mem addr v }
  else .error { kind := .memoryOutOfRange, detail := some addr }

/-- The state with PC past `n` bytes (10_state.md R34); modulo 65536 only where no fetch leads (log entry 11). -/
def advancePc (n : Nat) (s : State) : State := { s with pc := s.pc + BitVec.ofNat 16 n }

/-- `fetch8()` (20_memory.md R56): the byte at PC, and the state with PC advanced. -/
def fetch8 (s : State) : Except Raise (Byte × State) := do
  let v ← memRead s.pc.toNat s
  if s.pc = 0xFFFF then .error { kind := .pcOverflow, detail := some s.pc.toNat }
  else .ok (v, advancePc 1 s)

/-- `push16(v)` (20_memory.md R60): the high byte at the old SP, then the low byte at the old SP - 1. -/
def push16 (v : Word) (s : State) : Except Raise State :=
  if s.sp.toNat ≤ 1 then .error { kind := .stackUnderflowProtection, detail := some s.sp.toNat }
  else do
    let s := { s with sp := s.sp - 2 }
    let s ← memWrite (s.sp.toNat + 2) (hi v) s
    memWrite (s.sp.toNat + 1) (lo v) s

/-- `pop16()` (20_memory.md R61): the high byte at the new SP, then the low byte at the new SP - 1. -/
def pop16 (s : State) : Except Raise (Word × State) :=
  if 0xFFFE ≤ s.sp.toNat then .error { kind := .stackPopOutOfRange, detail := some s.sp.toNat }
  else do
    let s := { s with sp := s.sp + 2 }
    let h ← memRead s.sp.toNat s
    let l ← memRead (s.sp.toNat - 1) s
    return (joinBytes h l, s)

/-- The byte an IN of `port` reads (00_scope.md R10) and the state after it is drawn: 0 in the minimal build, a free value at
each draw otherwise. -/
def ioInput (port : Byte) (s : State) : Byte × State :=
  match s.params.io with
  | .minimal => (0, s)
  | .external => (Config.ioIn s.ioReads port, { s with ioReads := s.ioReads + 1 })

/-- `raise K(detail)` by the instruction at the state's PC (60_exceptions.md R212): everything is left as it was before the
step and run becomes Faulted. -/
def takeFault (opcode : Option Byte) (x : Raise) (s : State) : State :=
  { s with run := .faulted { kind := x.kind, pc := s.pc, opcode := opcode, detail := x.detail } }

/-- The end of a completed instruction (30_encoding.md R88, 70_reset_and_hazards.md R250): Primary and Alternate prime
`wait`, Halt stops the core and primes nothing. -/
def retire (i : Instr) (r : HandlerResult) (s : State) : State :=
  match r with
  | .primary => { s with wait := durOf i - 1 }
  | .alternate => { s with wait := altOf i - 1 }
  | .halt => { s with run := .halted }

/-- Does an opcode have a meaning under the parameters (30_encoding.md R85)? -/
def hasMeaning (p : Params) (i : Instr) : Bool :=
  match (rowOf (opcodeOf i)).avail with
  | .always => true
  | .daaExecute => decide (p.daaMode = .execute)
  | .unlistedExecute => decide (p.unlistedOps = .execute)

/-- An instruction run at the state whose PC is its address (30_encoding.md R88): UndefinedOpcode when it has no meaning;
else its body runs with PC past its bytes (10_state.md R34) and completes, or raises and leaves the state before the step.
The check stands after the operand fetch, which changes nothing: every opcode it can stop has one byte (log entry 10). -/
def runInstr (i : Instr) (body : Body) (s : State) : Host.Outcome State Fault Refusal :=
  if hasMeaning s.params i then
    match body (advancePc (lenOf i) s) with
    | .ok (t, r) => .next (retire i r t)
    | .error x => .next (takeFault (some (opcodeOf i)) x s)
  else .next (takeFault (some (opcodeOf i)) { kind := .undefinedOpcode, detail := none } s)

end Sys2Proof.Machine
end

