-- ==== Sys2Proof/Machine/Operands.lean ====
section
/-! DEFINITION. The operand forms: 8-bit operands with the M pseudo-register (10_state.md R21 to R23), register pairs (R25
to R27) and the PSW (R28). -/

namespace Sys2Proof.Machine

/-- The address in H:L (10_state.md R25). -/
def hlAddr (s : State) : Nat := (joinBytes s.h s.l).toNat

/-- `r8(code)` (10_state.md R22). -/
def r8 (r : Reg8) (s : State) : Except Raise Byte :=
  match r with
  | .b => .ok s.b
  | .c => .ok s.c
  | .d => .ok s.d
  | .e => .ok s.e
  | .h => .ok s.h
  | .l => .ok s.l
  | .m => memRead (hlAddr s) s
  | .a => .ok s.a

/-- `w8(code, v)` (10_state.md R23): the address of M is the H:L at the moment of the access. -/
def w8 (r : Reg8) (v : Byte) (s : State) : Except Raise State :=
  match r with
  | .b => .ok { s with b := v }
  | .c => .ok { s with c := v }
  | .d => .ok { s with d := v }
  | .e => .ok { s with e := v }
  | .h => .ok { s with h := v }
  | .l => .ok { s with l := v }
  | .m => memWrite (hlAddr s) v s
  | .a => .ok { s with a := v }

/-- `rp16(p)` (10_state.md R26). -/
def rp16 (p : Pair) (s : State) : Word :=
  match p with
  | .bc => joinBytes s.b s.c
  | .de => joinBytes s.d s.e
  | .hl => joinBytes s.h s.l
  | .sp => s.sp

/-- `setrp16(p, v)` (10_state.md R27). -/
def setrp16 (p : Pair) (v : Word) (s : State) : State :=
  match p with
  | .bc => { s with b := hi v, c := lo v }
  | .de => { s with d := hi v, e := lo v }
  | .hl => { s with h := hi v, l := lo v }
  | .sp => { s with sp := v }

/-- `psw16() = A ++ F` (10_state.md R28). -/
def psw16 (s : State) : Word := joinBytes s.a s.f

/-- `setpsw16(v)` (10_state.md R28): F takes the low byte through `norm`. -/
def setpsw16 (v : Word) (s : State) : State := { s with a := hi v, f := normF (lo v) }

/-- The value PUSH reads (44_stack_io_machine.md R190). -/
def stackPairValue (p : StackPair) (s : State) : Word :=
  match p with
  | .bc => rp16 .bc s
  | .de => rp16 .de s
  | .hl => rp16 .hl s
  | .psw => psw16 s

/-- The write POP makes (44_stack_io_machine.md R191). -/
def setStackPair (p : StackPair) (v : Word) (s : State) : State :=
  match p with
  | .bc => setrp16 .bc v s
  | .de => setrp16 .de v s
  | .hl => setrp16 .hl v s
  | .psw => setpsw16 v s

/-- The pair LDAX and STAX address through (40_data_movement.md R105, R106). -/
def indexAddr (p : IndexPair) (s : State) : Nat :=
  match p with
  | .bc => (rp16 .bc s).toNat
  | .de => (rp16 .de s).toNat

end Sys2Proof.Machine
end

