-- ==== Sys2Proof/Machine/Arithmetic.lean ====
section
/-! DEFINITION. Arithmetic (41_arithmetic.md): ADD, ADC, SUB, SBB, CMP and their immediate forms, INR, DCR, INX, DCX, DAD, DAA. The
bodies come first, then one meaning per instruction. -/

namespace Sys2Proof.Machine

/-- `A <- r; arith_flags(r, cy, ac)` (R122 to R126). -/
def putResult (x : Byte × Bool × Bool) (s : State) : State :=
  { s with a := x.1, f := arithFlags s.params.acMode x.1 x.2.1 x.2.2 s.f }

/-- `arith_flags(r, cy, ac)` alone: a compare keeps A (R127). -/
def putFlags (x : Byte × Bool × Bool) (s : State) : State :=
  { s with f := arithFlags s.params.acMode x.1 x.2.1 x.2.2 s.f }

/-- ADD of a byte (R123, R128). -/
def addImm (v : Byte) : Body := fun s => .ok (putResult (add8 s.a v false) s, .primary)
/-- ADC of a byte (R124, R129). -/
def adcImm (v : Byte) : Body := fun s => .ok (putResult (add8 s.a v (flagCY s.f)) s, .primary)
/-- SUB of a byte (R125, R130). -/
def subImm (v : Byte) : Body := fun s => .ok (putResult (sub8 s.a v false) s, .primary)
/-- SBB of a byte (R126, R131). -/
def sbbImm (v : Byte) : Body := fun s => .ok (putResult (sub8 s.a v (flagCY s.f)) s, .primary)
/-- CMP of a byte (R127, R132). -/
def cmpImm (v : Byte) : Body := fun s => .ok (putFlags (sub8 s.a v false) s, .primary)

/-- ADD sss (R123). -/
def addReg (r : Reg8) : Body := fun s => do addImm (← r8 r s) s
/-- ADC sss (R124). -/
def adcReg (r : Reg8) : Body := fun s => do adcImm (← r8 r s) s
/-- SUB sss (R125). -/
def subReg (r : Reg8) : Body := fun s => do subImm (← r8 r s) s
/-- SBB sss (R126). -/
def sbbReg (r : Reg8) : Body := fun s => do sbbImm (← r8 r s) s
/-- CMP sss (R127). -/
def cmpReg (r : Reg8) : Body := fun s => do cmpImm (← r8 r s) s

/-- INR ddd (R133): the carry is discarded. -/
def inr (dst : Reg8) : Body := fun s => do
  let v ← r8 dst s
  let x := add8 v 1 false
  let s ← w8 dst x.1 s
  return ({ s with f := stepFlags s.params.acMode x.1 x.2.2 s.f }, .primary)

/-- DCR ddd (R134): the borrow is discarded. -/
def dcr (dst : Reg8) : Body := fun s => do
  let v ← r8 dst s
  let x := sub8 v 1 false
  let s ← w8 dst x.1 s
  return ({ s with f := stepFlags s.params.acMode x.1 x.2.2 s.f }, .primary)

/-- INX rp (R135): modulo 65536, no flag. -/
def inx (p : Pair) : Body := fun s => .ok (setrp16 p (rp16 p s + 1) s, .primary)

/-- DCX rp (R136): modulo 65536, no flag. -/
def dcx (p : Pair) : Body := fun s => .ok (setrp16 p (rp16 p s + 65535) s, .primary)

/-- DAD rp (R137): CY is bit 16 of the sum. -/
def dad (p : Pair) : Body := fun s =>
  let sum := (joinBytes s.h s.l).toNat + (rp16 p s).toNat
  .ok (setrp16 .hl (BitVec.ofNat 16 sum) { s with f := setCY (sum.testBit 16) s.f }, .primary)

/-- DAA (R138), when it has a meaning. -/
def daa : Body := fun s =>
  let x := decimalAdjust s.a (flagAC s.f) (flagCY s.f)
  .ok ({ s with a := x.1, f := setAC x.2.2 (setCY x.2.1 (szp x.1 s.f)) }, .primary)

/-! ### The meanings -/

/-- `INX B`, 0x03 (R135). -/
def execInxB (s : State) : Host.Outcome State Fault Refusal := runInstr .inxB (inx .bc) s

/-- `INR B`, 0x04 (R133). -/
def execInrB (s : State) : Host.Outcome State Fault Refusal := runInstr .inrB (inr .b) s

/-- `DCR B`, 0x05 (R134). -/
def execDcrB (s : State) : Host.Outcome State Fault Refusal := runInstr .dcrB (dcr .b) s

/-- `DAD B`, 0x09 (R137). -/
def execDadB (s : State) : Host.Outcome State Fault Refusal := runInstr .dadB (dad .bc) s

/-- `DCX B`, 0x0B (R136). -/
def execDcxB (s : State) : Host.Outcome State Fault Refusal := runInstr .dcxB (dcx .bc) s

/-- `INR C`, 0x0C (R133). -/
def execInrC (s : State) : Host.Outcome State Fault Refusal := runInstr .inrC (inr .c) s

/-- `DCR C`, 0x0D (R134). -/
def execDcrC (s : State) : Host.Outcome State Fault Refusal := runInstr .dcrC (dcr .c) s

/-- `INX D`, 0x13 (R135). -/
def execInxD (s : State) : Host.Outcome State Fault Refusal := runInstr .inxD (inx .de) s

/-- `INR D`, 0x14 (R133). -/
def execInrD (s : State) : Host.Outcome State Fault Refusal := runInstr .inrD (inr .d) s

/-- `DCR D`, 0x15 (R134). -/
def execDcrD (s : State) : Host.Outcome State Fault Refusal := runInstr .dcrD (dcr .d) s

/-- `DAD D`, 0x19 (R137). -/
def execDadD (s : State) : Host.Outcome State Fault Refusal := runInstr .dadD (dad .de) s

/-- `DCX D`, 0x1B (R136). -/
def execDcxD (s : State) : Host.Outcome State Fault Refusal := runInstr .dcxD (dcx .de) s

/-- `INR E`, 0x1C (R133). -/
def execInrE (s : State) : Host.Outcome State Fault Refusal := runInstr .inrE (inr .e) s

/-- `DCR E`, 0x1D (R134). -/
def execDcrE (s : State) : Host.Outcome State Fault Refusal := runInstr .dcrE (dcr .e) s

/-- `INX H`, 0x23 (R135). -/
def execInxH (s : State) : Host.Outcome State Fault Refusal := runInstr .inxH (inx .hl) s

/-- `INR H`, 0x24 (R133). -/
def execInrH (s : State) : Host.Outcome State Fault Refusal := runInstr .inrH (inr .h) s

/-- `DCR H`, 0x25 (R134). -/
def execDcrH (s : State) : Host.Outcome State Fault Refusal := runInstr .dcrH (dcr .h) s

/-- `DAA`, 0x27 (R138). -/
def execDaa (s : State) : Host.Outcome State Fault Refusal := runInstr .daa daa s

/-- `DAD H`, 0x29 (R137). -/
def execDadH (s : State) : Host.Outcome State Fault Refusal := runInstr .dadH (dad .hl) s

/-- `DCX H`, 0x2B (R136). -/
def execDcxH (s : State) : Host.Outcome State Fault Refusal := runInstr .dcxH (dcx .hl) s

/-- `INR L`, 0x2C (R133). -/
def execInrL (s : State) : Host.Outcome State Fault Refusal := runInstr .inrL (inr .l) s

/-- `DCR L`, 0x2D (R134). -/
def execDcrL (s : State) : Host.Outcome State Fault Refusal := runInstr .dcrL (dcr .l) s

/-- `INX SP`, 0x33 (R135). -/
def execInxSp (s : State) : Host.Outcome State Fault Refusal := runInstr .inxSp (inx .sp) s

/-- `INR M`, 0x34 (R133). -/
def execInrM (s : State) : Host.Outcome State Fault Refusal := runInstr .inrM (inr .m) s

/-- `DCR M`, 0x35 (R134). -/
def execDcrM (s : State) : Host.Outcome State Fault Refusal := runInstr .dcrM (dcr .m) s

/-- `DAD SP`, 0x39 (R137). -/
def execDadSp (s : State) : Host.Outcome State Fault Refusal := runInstr .dadSp (dad .sp) s

/-- `DCX SP`, 0x3B (R136). -/
def execDcxSp (s : State) : Host.Outcome State Fault Refusal := runInstr .dcxSp (dcx .sp) s

/-- `INR A`, 0x3C (R133). -/
def execInrA (s : State) : Host.Outcome State Fault Refusal := runInstr .inrA (inr .a) s

/-- `DCR A`, 0x3D (R134). -/
def execDcrA (s : State) : Host.Outcome State Fault Refusal := runInstr .dcrA (dcr .a) s

/-- `ADD B`, 0x80 (R123). -/
def execAddB (s : State) : Host.Outcome State Fault Refusal := runInstr .addB (addReg .b) s

/-- `ADD C`, 0x81 (R123). -/
def execAddC (s : State) : Host.Outcome State Fault Refusal := runInstr .addC (addReg .c) s

/-- `ADD D`, 0x82 (R123). -/
def execAddD (s : State) : Host.Outcome State Fault Refusal := runInstr .addD (addReg .d) s

/-- `ADD E`, 0x83 (R123). -/
def execAddE (s : State) : Host.Outcome State Fault Refusal := runInstr .addE (addReg .e) s

/-- `ADD H`, 0x84 (R123). -/
def execAddH (s : State) : Host.Outcome State Fault Refusal := runInstr .addH (addReg .h) s

/-- `ADD L`, 0x85 (R123). -/
def execAddL (s : State) : Host.Outcome State Fault Refusal := runInstr .addL (addReg .l) s

/-- `ADD M`, 0x86 (R123). -/
def execAddM (s : State) : Host.Outcome State Fault Refusal := runInstr .addM (addReg .m) s

/-- `ADD A`, 0x87 (R123). -/
def execAddA (s : State) : Host.Outcome State Fault Refusal := runInstr .addA (addReg .a) s

/-- `ADC B`, 0x88 (R124). -/
def execAdcB (s : State) : Host.Outcome State Fault Refusal := runInstr .adcB (adcReg .b) s

/-- `ADC C`, 0x89 (R124). -/
def execAdcC (s : State) : Host.Outcome State Fault Refusal := runInstr .adcC (adcReg .c) s

/-- `ADC D`, 0x8A (R124). -/
def execAdcD (s : State) : Host.Outcome State Fault Refusal := runInstr .adcD (adcReg .d) s

/-- `ADC E`, 0x8B (R124). -/
def execAdcE (s : State) : Host.Outcome State Fault Refusal := runInstr .adcE (adcReg .e) s

/-- `ADC H`, 0x8C (R124). -/
def execAdcH (s : State) : Host.Outcome State Fault Refusal := runInstr .adcH (adcReg .h) s

/-- `ADC L`, 0x8D (R124). -/
def execAdcL (s : State) : Host.Outcome State Fault Refusal := runInstr .adcL (adcReg .l) s

/-- `ADC M`, 0x8E (R124). -/
def execAdcM (s : State) : Host.Outcome State Fault Refusal := runInstr .adcM (adcReg .m) s

/-- `ADC A`, 0x8F (R124). -/
def execAdcA (s : State) : Host.Outcome State Fault Refusal := runInstr .adcA (adcReg .a) s

/-- `SUB B`, 0x90 (R125). -/
def execSubB (s : State) : Host.Outcome State Fault Refusal := runInstr .subB (subReg .b) s

/-- `SUB C`, 0x91 (R125). -/
def execSubC (s : State) : Host.Outcome State Fault Refusal := runInstr .subC (subReg .c) s

/-- `SUB D`, 0x92 (R125). -/
def execSubD (s : State) : Host.Outcome State Fault Refusal := runInstr .subD (subReg .d) s

/-- `SUB E`, 0x93 (R125). -/
def execSubE (s : State) : Host.Outcome State Fault Refusal := runInstr .subE (subReg .e) s

/-- `SUB H`, 0x94 (R125). -/
def execSubH (s : State) : Host.Outcome State Fault Refusal := runInstr .subH (subReg .h) s

/-- `SUB L`, 0x95 (R125). -/
def execSubL (s : State) : Host.Outcome State Fault Refusal := runInstr .subL (subReg .l) s

/-- `SUB M`, 0x96 (R125). -/
def execSubM (s : State) : Host.Outcome State Fault Refusal := runInstr .subM (subReg .m) s

/-- `SUB A`, 0x97 (R125). -/
def execSubA (s : State) : Host.Outcome State Fault Refusal := runInstr .subA (subReg .a) s

/-- `SBB B`, 0x98 (R126). -/
def execSbbB (s : State) : Host.Outcome State Fault Refusal := runInstr .sbbB (sbbReg .b) s

/-- `SBB C`, 0x99 (R126). -/
def execSbbC (s : State) : Host.Outcome State Fault Refusal := runInstr .sbbC (sbbReg .c) s

/-- `SBB D`, 0x9A (R126). -/
def execSbbD (s : State) : Host.Outcome State Fault Refusal := runInstr .sbbD (sbbReg .d) s

/-- `SBB E`, 0x9B (R126). -/
def execSbbE (s : State) : Host.Outcome State Fault Refusal := runInstr .sbbE (sbbReg .e) s

/-- `SBB H`, 0x9C (R126). -/
def execSbbH (s : State) : Host.Outcome State Fault Refusal := runInstr .sbbH (sbbReg .h) s

/-- `SBB L`, 0x9D (R126). -/
def execSbbL (s : State) : Host.Outcome State Fault Refusal := runInstr .sbbL (sbbReg .l) s

/-- `SBB M`, 0x9E (R126). -/
def execSbbM (s : State) : Host.Outcome State Fault Refusal := runInstr .sbbM (sbbReg .m) s

/-- `SBB A`, 0x9F (R126). -/
def execSbbA (s : State) : Host.Outcome State Fault Refusal := runInstr .sbbA (sbbReg .a) s

/-- `CMP B`, 0xB8 (R127). -/
def execCmpB (s : State) : Host.Outcome State Fault Refusal := runInstr .cmpB (cmpReg .b) s

/-- `CMP C`, 0xB9 (R127). -/
def execCmpC (s : State) : Host.Outcome State Fault Refusal := runInstr .cmpC (cmpReg .c) s

/-- `CMP D`, 0xBA (R127). -/
def execCmpD (s : State) : Host.Outcome State Fault Refusal := runInstr .cmpD (cmpReg .d) s

/-- `CMP E`, 0xBB (R127). -/
def execCmpE (s : State) : Host.Outcome State Fault Refusal := runInstr .cmpE (cmpReg .e) s

/-- `CMP H`, 0xBC (R127). -/
def execCmpH (s : State) : Host.Outcome State Fault Refusal := runInstr .cmpH (cmpReg .h) s

/-- `CMP L`, 0xBD (R127). -/
def execCmpL (s : State) : Host.Outcome State Fault Refusal := runInstr .cmpL (cmpReg .l) s

/-- `CMP M`, 0xBE (R127). -/
def execCmpM (s : State) : Host.Outcome State Fault Refusal := runInstr .cmpM (cmpReg .m) s

/-- `CMP A`, 0xBF (R127). -/
def execCmpA (s : State) : Host.Outcome State Fault Refusal := runInstr .cmpA (cmpReg .a) s

/-- `ADI d8`, 0xC6 (R128). -/
def execAdi (v : Byte) (s : State) : Host.Outcome State Fault Refusal := runInstr (.adi v) (addImm v) s

/-- `ACI d8`, 0xCE (R129). -/
def execAci (v : Byte) (s : State) : Host.Outcome State Fault Refusal := runInstr (.aci v) (adcImm v) s

/-- `SUI d8`, 0xD6 (R130). -/
def execSui (v : Byte) (s : State) : Host.Outcome State Fault Refusal := runInstr (.sui v) (subImm v) s

/-- `SBI d8`, 0xDE (R131). -/
def execSbi (v : Byte) (s : State) : Host.Outcome State Fault Refusal := runInstr (.sbi v) (sbbImm v) s

/-- `CPI d8`, 0xFE (R132). -/
def execCpi (v : Byte) (s : State) : Host.Outcome State Fault Refusal := runInstr (.cpi v) (cmpImm v) s

end Sys2Proof.Machine
end

