-- ==== Sys2Proof/Machine/ControlFlow.lean ====
section
/-! DEFINITION. Control transfer (43_control_flow.md): JMP, Jcc, CALL, Ccc, RET, Rcc, their aliases, PCHL and RST. The bodies come
first, then one meaning per instruction. A body runs with PC past the instruction's bytes, so PC is the return address. -/

namespace Sys2Proof.Machine

/-- JMP a16 (R171). -/
def jump (target : Word) : Body := fun s => .ok ({ s with pc := target }, .primary)

/-- Jcc a16 (R172): Primary on both paths. -/
def jumpIf (k : Cond) (target : Word) : Body := fun s =>
  if condHolds k s.f then jump target s else .ok (s, .primary)

/-- CALL a16 (R173). -/
def call (target : Word) : Body := fun s => do
  let s ← push16 s.pc s
  return ({ s with pc := target }, .primary)

/-- Ccc a16 (R174): Alternate when not taken. -/
def callIf (k : Cond) (target : Word) : Body := fun s =>
  if condHolds k s.f then call target s else .ok (s, .alternate)

/-- RET (R175). -/
def ret : Body := fun s => do
  let (v, s) ← pop16 s
  return ({ s with pc := v }, .primary)

/-- Rcc (R176): Alternate when not taken. -/
def retIf (k : Cond) : Body := fun s =>
  if condHolds k s.f then ret s else .ok (s, .alternate)

/-- PCHL (R180), when it has a meaning. -/
def pchl : Body := fun s => .ok ({ s with pc := joinBytes s.h s.l }, .primary)

/-- RST nnn (R181), when it has a meaning: a call to 8 * nnn. -/
def rst (n : Nat) : Body := call (BitVec.ofNat 16 (8 * n))

/-! ### The meanings -/

/-- `RNZ`, 0xC0 (R176). -/
def execRnz (s : State) : Host.Outcome State Fault Refusal := runInstr .rnz (retIf .nz) s

/-- `JNZ a16`, 0xC2 (R172). -/
def execJnz (v : Word) (s : State) : Host.Outcome State Fault Refusal := runInstr (.jnz v) (jumpIf .nz v) s

/-- `JMP a16`, 0xC3 (R171). -/
def execJmp (v : Word) (s : State) : Host.Outcome State Fault Refusal := runInstr (.jmp v) (jump v) s

/-- `CNZ a16`, 0xC4 (R174). -/
def execCnz (v : Word) (s : State) : Host.Outcome State Fault Refusal := runInstr (.cnz v) (callIf .nz v) s

/-- `RST 0`, 0xC7 (R181). -/
def execRst0 (s : State) : Host.Outcome State Fault Refusal := runInstr .rst0 (rst 0) s

/-- `RZ`, 0xC8 (R176). -/
def execRz (s : State) : Host.Outcome State Fault Refusal := runInstr .rz (retIf .z) s

/-- `RET`, 0xC9 (R175). -/
def execRet (s : State) : Host.Outcome State Fault Refusal := runInstr .ret ret s

/-- `JZ a16`, 0xCA (R172). -/
def execJz (v : Word) (s : State) : Host.Outcome State Fault Refusal := runInstr (.jz v) (jumpIf .z v) s

/-- `*JMP a16`, 0xCB (R177). -/
def execJmpAlias (v : Word) (s : State) : Host.Outcome State Fault Refusal := runInstr (.jmpAlias v) (jump v) s

/-- `CZ a16`, 0xCC (R174). -/
def execCz (v : Word) (s : State) : Host.Outcome State Fault Refusal := runInstr (.cz v) (callIf .z v) s

/-- `CALL a16`, 0xCD (R173). -/
def execCall (v : Word) (s : State) : Host.Outcome State Fault Refusal := runInstr (.call v) (call v) s

/-- `RST 1`, 0xCF (R181). -/
def execRst1 (s : State) : Host.Outcome State Fault Refusal := runInstr .rst1 (rst 1) s

/-- `RNC`, 0xD0 (R176). -/
def execRnc (s : State) : Host.Outcome State Fault Refusal := runInstr .rnc (retIf .nc) s

/-- `JNC a16`, 0xD2 (R172). -/
def execJnc (v : Word) (s : State) : Host.Outcome State Fault Refusal := runInstr (.jnc v) (jumpIf .nc v) s

/-- `CNC a16`, 0xD4 (R174). -/
def execCnc (v : Word) (s : State) : Host.Outcome State Fault Refusal := runInstr (.cnc v) (callIf .nc v) s

/-- `RST 2`, 0xD7 (R181). -/
def execRst2 (s : State) : Host.Outcome State Fault Refusal := runInstr .rst2 (rst 2) s

/-- `RC`, 0xD8 (R176). -/
def execRc (s : State) : Host.Outcome State Fault Refusal := runInstr .rc (retIf .c) s

/-- `*RET`, 0xD9 (R179). -/
def execRetAlias (s : State) : Host.Outcome State Fault Refusal := runInstr .retAlias ret s

/-- `JC a16`, 0xDA (R172). -/
def execJc (v : Word) (s : State) : Host.Outcome State Fault Refusal := runInstr (.jc v) (jumpIf .c v) s

/-- `CC a16`, 0xDC (R174). -/
def execCc (v : Word) (s : State) : Host.Outcome State Fault Refusal := runInstr (.cc v) (callIf .c v) s

/-- `*CALL a16`, 0xDD (R178). -/
def execCallAliasDD (v : Word) (s : State) : Host.Outcome State Fault Refusal := runInstr (.callAliasDD v) (call v) s

/-- `RST 3`, 0xDF (R181). -/
def execRst3 (s : State) : Host.Outcome State Fault Refusal := runInstr .rst3 (rst 3) s

/-- `RPO`, 0xE0 (R176). -/
def execRpo (s : State) : Host.Outcome State Fault Refusal := runInstr .rpo (retIf .po) s

/-- `JPO a16`, 0xE2 (R172). -/
def execJpo (v : Word) (s : State) : Host.Outcome State Fault Refusal := runInstr (.jpo v) (jumpIf .po v) s

/-- `CPO a16`, 0xE4 (R174). -/
def execCpo (v : Word) (s : State) : Host.Outcome State Fault Refusal := runInstr (.cpo v) (callIf .po v) s

/-- `RST 4`, 0xE7 (R181). -/
def execRst4 (s : State) : Host.Outcome State Fault Refusal := runInstr .rst4 (rst 4) s

/-- `RPE`, 0xE8 (R176). -/
def execRpe (s : State) : Host.Outcome State Fault Refusal := runInstr .rpe (retIf .pe) s

/-- `PCHL`, 0xE9 (R180). -/
def execPchl (s : State) : Host.Outcome State Fault Refusal := runInstr .pchl pchl s

/-- `JPE a16`, 0xEA (R172). -/
def execJpe (v : Word) (s : State) : Host.Outcome State Fault Refusal := runInstr (.jpe v) (jumpIf .pe v) s

/-- `CPE a16`, 0xEC (R174). -/
def execCpe (v : Word) (s : State) : Host.Outcome State Fault Refusal := runInstr (.cpe v) (callIf .pe v) s

/-- `*CALL a16`, 0xED (R178). -/
def execCallAliasED (v : Word) (s : State) : Host.Outcome State Fault Refusal := runInstr (.callAliasED v) (call v) s

/-- `RST 5`, 0xEF (R181). -/
def execRst5 (s : State) : Host.Outcome State Fault Refusal := runInstr .rst5 (rst 5) s

/-- `RP`, 0xF0 (R176). -/
def execRp (s : State) : Host.Outcome State Fault Refusal := runInstr .rp (retIf .p) s

/-- `JP a16`, 0xF2 (R172). -/
def execJp (v : Word) (s : State) : Host.Outcome State Fault Refusal := runInstr (.jp v) (jumpIf .p v) s

/-- `CP a16`, 0xF4 (R174). -/
def execCp (v : Word) (s : State) : Host.Outcome State Fault Refusal := runInstr (.cp v) (callIf .p v) s

/-- `RST 6`, 0xF7 (R181). -/
def execRst6 (s : State) : Host.Outcome State Fault Refusal := runInstr .rst6 (rst 6) s

/-- `RM`, 0xF8 (R176). -/
def execRm (s : State) : Host.Outcome State Fault Refusal := runInstr .rm (retIf .m) s

/-- `JM a16`, 0xFA (R172). -/
def execJm (v : Word) (s : State) : Host.Outcome State Fault Refusal := runInstr (.jm v) (jumpIf .m v) s

/-- `CM a16`, 0xFC (R174). -/
def execCm (v : Word) (s : State) : Host.Outcome State Fault Refusal := runInstr (.cm v) (callIf .m v) s

/-- `*CALL a16`, 0xFD (R178). -/
def execCallAliasFD (v : Word) (s : State) : Host.Outcome State Fault Refusal := runInstr (.callAliasFD v) (call v) s

/-- `RST 7`, 0xFF (R181). -/
def execRst7 (s : State) : Host.Outcome State Fault Refusal := runInstr .rst7 (rst 7) s

end Sys2Proof.Machine
end

