-- ==== Sys2Proof/Machine/DataMovement.lean ====
section
/-! DEFINITION. Data movement (40_data_movement.md): MOV, MVI, LXI, LDA, STA, LDAX, STAX, LHLD, SHLD, XCHG. No flag is
affected. The bodies come first, then one meaning per instruction. -/

namespace Sys2Proof.Machine

/-- MOV ddd,sss (R100). -/
def mov (dst src : Reg8) : Body := fun s => do
  let v ← r8 src s
  let s ← w8 dst v s
  return (s, .primary)

/-- MVI ddd,d8 (R101). -/
def mvi (dst : Reg8) (v : Byte) : Body := fun s => do
  let s ← w8 dst v s
  return (s, .primary)

/-- LXI rp,d16 (R102). -/
def lxi (p : Pair) (v : Word) : Body := fun s => .ok (setrp16 p v s, .primary)

/-- LDA a16 (R103). -/
def lda (addr : Word) : Body := fun s => do
  let v ← memRead addr.toNat s
  return ({ s with a := v }, .primary)

/-- STA a16 (R104). -/
def sta (addr : Word) : Body := fun s => do
  let s ← memWrite addr.toNat s.a s
  return (s, .primary)

/-- LDAX rp (R105). -/
def ldax (p : IndexPair) : Body := fun s => do
  let v ← memRead (indexAddr p s) s
  return ({ s with a := v }, .primary)

/-- STAX rp (R106). -/
def stax (p : IndexPair) : Body := fun s => do
  let s ← memWrite (indexAddr p s) s.a s
  return (s, .primary)

/-- LHLD a16 (R107): the address a16 + 1 is not wrapped (92_eei_decisions.md D7). -/
def lhld (addr : Word) : Body := fun s => do
  let l ← memRead addr.toNat s
  let h ← memRead (addr.toNat + 1) s
  return ({ s with l := l, h := h }, .primary)

/-- SHLD a16 (R108). -/
def shld (addr : Word) : Body := fun s => do
  let s ← memWrite addr.toNat s.l s
  let s ← memWrite (addr.toNat + 1) s.h s
  return (s, .primary)

/-- XCHG (R109). -/
def xchg : Body := fun s => .ok ({ s with d := s.h, e := s.l, h := s.d, l := s.e }, .primary)

/-! ### The meanings -/

/-- `LXI B,d16`, 0x01 (R102). -/
def execLxiB (v : Word) (s : State) : Host.Outcome State Fault Refusal := runInstr (.lxiB v) (lxi .bc v) s

/-- `STAX B`, 0x02 (R106). -/
def execStaxB (s : State) : Host.Outcome State Fault Refusal := runInstr .staxB (stax .bc) s

/-- `MVI B,d8`, 0x06 (R101). -/
def execMviB (v : Byte) (s : State) : Host.Outcome State Fault Refusal := runInstr (.mviB v) (mvi .b v) s

/-- `LDAX B`, 0x0A (R105). -/
def execLdaxB (s : State) : Host.Outcome State Fault Refusal := runInstr .ldaxB (ldax .bc) s

/-- `MVI C,d8`, 0x0E (R101). -/
def execMviC (v : Byte) (s : State) : Host.Outcome State Fault Refusal := runInstr (.mviC v) (mvi .c v) s

/-- `LXI D,d16`, 0x11 (R102). -/
def execLxiD (v : Word) (s : State) : Host.Outcome State Fault Refusal := runInstr (.lxiD v) (lxi .de v) s

/-- `STAX D`, 0x12 (R106). -/
def execStaxD (s : State) : Host.Outcome State Fault Refusal := runInstr .staxD (stax .de) s

/-- `MVI D,d8`, 0x16 (R101). -/
def execMviD (v : Byte) (s : State) : Host.Outcome State Fault Refusal := runInstr (.mviD v) (mvi .d v) s

/-- `LDAX D`, 0x1A (R105). -/
def execLdaxD (s : State) : Host.Outcome State Fault Refusal := runInstr .ldaxD (ldax .de) s

/-- `MVI E,d8`, 0x1E (R101). -/
def execMviE (v : Byte) (s : State) : Host.Outcome State Fault Refusal := runInstr (.mviE v) (mvi .e v) s

/-- `LXI H,d16`, 0x21 (R102). -/
def execLxiH (v : Word) (s : State) : Host.Outcome State Fault Refusal := runInstr (.lxiH v) (lxi .hl v) s

/-- `SHLD a16`, 0x22 (R108). -/
def execShld (v : Word) (s : State) : Host.Outcome State Fault Refusal := runInstr (.shld v) (shld v) s

/-- `MVI H,d8`, 0x26 (R101). -/
def execMviH (v : Byte) (s : State) : Host.Outcome State Fault Refusal := runInstr (.mviH v) (mvi .h v) s

/-- `LHLD a16`, 0x2A (R107). -/
def execLhld (v : Word) (s : State) : Host.Outcome State Fault Refusal := runInstr (.lhld v) (lhld v) s

/-- `MVI L,d8`, 0x2E (R101). -/
def execMviL (v : Byte) (s : State) : Host.Outcome State Fault Refusal := runInstr (.mviL v) (mvi .l v) s

/-- `LXI SP,d16`, 0x31 (R102). -/
def execLxiSp (v : Word) (s : State) : Host.Outcome State Fault Refusal := runInstr (.lxiSp v) (lxi .sp v) s

/-- `STA a16`, 0x32 (R104). -/
def execSta (v : Word) (s : State) : Host.Outcome State Fault Refusal := runInstr (.sta v) (sta v) s

/-- `MVI M,d8`, 0x36 (R101). -/
def execMviM (v : Byte) (s : State) : Host.Outcome State Fault Refusal := runInstr (.mviM v) (mvi .m v) s

/-- `LDA a16`, 0x3A (R103). -/
def execLda (v : Word) (s : State) : Host.Outcome State Fault Refusal := runInstr (.lda v) (lda v) s

/-- `MVI A,d8`, 0x3E (R101). -/
def execMviA (v : Byte) (s : State) : Host.Outcome State Fault Refusal := runInstr (.mviA v) (mvi .a v) s

/-- `MOV B,B`, 0x40 (R100). -/
def execMovBB (s : State) : Host.Outcome State Fault Refusal := runInstr .movBB (mov .b .b) s

/-- `MOV B,C`, 0x41 (R100). -/
def execMovBC (s : State) : Host.Outcome State Fault Refusal := runInstr .movBC (mov .b .c) s

/-- `MOV B,D`, 0x42 (R100). -/
def execMovBD (s : State) : Host.Outcome State Fault Refusal := runInstr .movBD (mov .b .d) s

/-- `MOV B,E`, 0x43 (R100). -/
def execMovBE (s : State) : Host.Outcome State Fault Refusal := runInstr .movBE (mov .b .e) s

/-- `MOV B,H`, 0x44 (R100). -/
def execMovBH (s : State) : Host.Outcome State Fault Refusal := runInstr .movBH (mov .b .h) s

/-- `MOV B,L`, 0x45 (R100). -/
def execMovBL (s : State) : Host.Outcome State Fault Refusal := runInstr .movBL (mov .b .l) s

/-- `MOV B,M`, 0x46 (R100). -/
def execMovBM (s : State) : Host.Outcome State Fault Refusal := runInstr .movBM (mov .b .m) s

/-- `MOV B,A`, 0x47 (R100). -/
def execMovBA (s : State) : Host.Outcome State Fault Refusal := runInstr .movBA (mov .b .a) s

/-- `MOV C,B`, 0x48 (R100). -/
def execMovCB (s : State) : Host.Outcome State Fault Refusal := runInstr .movCB (mov .c .b) s

/-- `MOV C,C`, 0x49 (R100). -/
def execMovCC (s : State) : Host.Outcome State Fault Refusal := runInstr .movCC (mov .c .c) s

/-- `MOV C,D`, 0x4A (R100). -/
def execMovCD (s : State) : Host.Outcome State Fault Refusal := runInstr .movCD (mov .c .d) s

/-- `MOV C,E`, 0x4B (R100). -/
def execMovCE (s : State) : Host.Outcome State Fault Refusal := runInstr .movCE (mov .c .e) s

/-- `MOV C,H`, 0x4C (R100). -/
def execMovCH (s : State) : Host.Outcome State Fault Refusal := runInstr .movCH (mov .c .h) s

/-- `MOV C,L`, 0x4D (R100). -/
def execMovCL (s : State) : Host.Outcome State Fault Refusal := runInstr .movCL (mov .c .l) s

/-- `MOV C,M`, 0x4E (R100). -/
def execMovCM (s : State) : Host.Outcome State Fault Refusal := runInstr .movCM (mov .c .m) s

/-- `MOV C,A`, 0x4F (R100). -/
def execMovCA (s : State) : Host.Outcome State Fault Refusal := runInstr .movCA (mov .c .a) s

/-- `MOV D,B`, 0x50 (R100). -/
def execMovDB (s : State) : Host.Outcome State Fault Refusal := runInstr .movDB (mov .d .b) s

/-- `MOV D,C`, 0x51 (R100). -/
def execMovDC (s : State) : Host.Outcome State Fault Refusal := runInstr .movDC (mov .d .c) s

/-- `MOV D,D`, 0x52 (R100). -/
def execMovDD (s : State) : Host.Outcome State Fault Refusal := runInstr .movDD (mov .d .d) s

/-- `MOV D,E`, 0x53 (R100). -/
def execMovDE (s : State) : Host.Outcome State Fault Refusal := runInstr .movDE (mov .d .e) s

/-- `MOV D,H`, 0x54 (R100). -/
def execMovDH (s : State) : Host.Outcome State Fault Refusal := runInstr .movDH (mov .d .h) s

/-- `MOV D,L`, 0x55 (R100). -/
def execMovDL (s : State) : Host.Outcome State Fault Refusal := runInstr .movDL (mov .d .l) s

/-- `MOV D,M`, 0x56 (R100). -/
def execMovDM (s : State) : Host.Outcome State Fault Refusal := runInstr .movDM (mov .d .m) s

/-- `MOV D,A`, 0x57 (R100). -/
def execMovDA (s : State) : Host.Outcome State Fault Refusal := runInstr .movDA (mov .d .a) s

/-- `MOV E,B`, 0x58 (R100). -/
def execMovEB (s : State) : Host.Outcome State Fault Refusal := runInstr .movEB (mov .e .b) s

/-- `MOV E,C`, 0x59 (R100). -/
def execMovEC (s : State) : Host.Outcome State Fault Refusal := runInstr .movEC (mov .e .c) s

/-- `MOV E,D`, 0x5A (R100). -/
def execMovED (s : State) : Host.Outcome State Fault Refusal := runInstr .movED (mov .e .d) s

/-- `MOV E,E`, 0x5B (R100). -/
def execMovEE (s : State) : Host.Outcome State Fault Refusal := runInstr .movEE (mov .e .e) s

/-- `MOV E,H`, 0x5C (R100). -/
def execMovEH (s : State) : Host.Outcome State Fault Refusal := runInstr .movEH (mov .e .h) s

/-- `MOV E,L`, 0x5D (R100). -/
def execMovEL (s : State) : Host.Outcome State Fault Refusal := runInstr .movEL (mov .e .l) s

/-- `MOV E,M`, 0x5E (R100). -/
def execMovEM (s : State) : Host.Outcome State Fault Refusal := runInstr .movEM (mov .e .m) s

/-- `MOV E,A`, 0x5F (R100). -/
def execMovEA (s : State) : Host.Outcome State Fault Refusal := runInstr .movEA (mov .e .a) s

/-- `MOV H,B`, 0x60 (R100). -/
def execMovHB (s : State) : Host.Outcome State Fault Refusal := runInstr .movHB (mov .h .b) s

/-- `MOV H,C`, 0x61 (R100). -/
def execMovHC (s : State) : Host.Outcome State Fault Refusal := runInstr .movHC (mov .h .c) s

/-- `MOV H,D`, 0x62 (R100). -/
def execMovHD (s : State) : Host.Outcome State Fault Refusal := runInstr .movHD (mov .h .d) s

/-- `MOV H,E`, 0x63 (R100). -/
def execMovHE (s : State) : Host.Outcome State Fault Refusal := runInstr .movHE (mov .h .e) s

/-- `MOV H,H`, 0x64 (R100). -/
def execMovHH (s : State) : Host.Outcome State Fault Refusal := runInstr .movHH (mov .h .h) s

/-- `MOV H,L`, 0x65 (R100). -/
def execMovHL (s : State) : Host.Outcome State Fault Refusal := runInstr .movHL (mov .h .l) s

/-- `MOV H,M`, 0x66 (R100). -/
def execMovHM (s : State) : Host.Outcome State Fault Refusal := runInstr .movHM (mov .h .m) s

/-- `MOV H,A`, 0x67 (R100). -/
def execMovHA (s : State) : Host.Outcome State Fault Refusal := runInstr .movHA (mov .h .a) s

/-- `MOV L,B`, 0x68 (R100). -/
def execMovLB (s : State) : Host.Outcome State Fault Refusal := runInstr .movLB (mov .l .b) s

/-- `MOV L,C`, 0x69 (R100). -/
def execMovLC (s : State) : Host.Outcome State Fault Refusal := runInstr .movLC (mov .l .c) s

/-- `MOV L,D`, 0x6A (R100). -/
def execMovLD (s : State) : Host.Outcome State Fault Refusal := runInstr .movLD (mov .l .d) s

/-- `MOV L,E`, 0x6B (R100). -/
def execMovLE (s : State) : Host.Outcome State Fault Refusal := runInstr .movLE (mov .l .e) s

/-- `MOV L,H`, 0x6C (R100). -/
def execMovLH (s : State) : Host.Outcome State Fault Refusal := runInstr .movLH (mov .l .h) s

/-- `MOV L,L`, 0x6D (R100). -/
def execMovLL (s : State) : Host.Outcome State Fault Refusal := runInstr .movLL (mov .l .l) s

/-- `MOV L,M`, 0x6E (R100). -/
def execMovLM (s : State) : Host.Outcome State Fault Refusal := runInstr .movLM (mov .l .m) s

/-- `MOV L,A`, 0x6F (R100). -/
def execMovLA (s : State) : Host.Outcome State Fault Refusal := runInstr .movLA (mov .l .a) s

/-- `MOV M,B`, 0x70 (R100). -/
def execMovMB (s : State) : Host.Outcome State Fault Refusal := runInstr .movMB (mov .m .b) s

/-- `MOV M,C`, 0x71 (R100). -/
def execMovMC (s : State) : Host.Outcome State Fault Refusal := runInstr .movMC (mov .m .c) s

/-- `MOV M,D`, 0x72 (R100). -/
def execMovMD (s : State) : Host.Outcome State Fault Refusal := runInstr .movMD (mov .m .d) s

/-- `MOV M,E`, 0x73 (R100). -/
def execMovME (s : State) : Host.Outcome State Fault Refusal := runInstr .movME (mov .m .e) s

/-- `MOV M,H`, 0x74 (R100). -/
def execMovMH (s : State) : Host.Outcome State Fault Refusal := runInstr .movMH (mov .m .h) s

/-- `MOV M,L`, 0x75 (R100). -/
def execMovML (s : State) : Host.Outcome State Fault Refusal := runInstr .movML (mov .m .l) s

/-- `MOV M,A`, 0x77 (R100). -/
def execMovMA (s : State) : Host.Outcome State Fault Refusal := runInstr .movMA (mov .m .a) s

/-- `MOV A,B`, 0x78 (R100). -/
def execMovAB (s : State) : Host.Outcome State Fault Refusal := runInstr .movAB (mov .a .b) s

/-- `MOV A,C`, 0x79 (R100). -/
def execMovAC (s : State) : Host.Outcome State Fault Refusal := runInstr .movAC (mov .a .c) s

/-- `MOV A,D`, 0x7A (R100). -/
def execMovAD (s : State) : Host.Outcome State Fault Refusal := runInstr .movAD (mov .a .d) s

/-- `MOV A,E`, 0x7B (R100). -/
def execMovAE (s : State) : Host.Outcome State Fault Refusal := runInstr .movAE (mov .a .e) s

/-- `MOV A,H`, 0x7C (R100). -/
def execMovAH (s : State) : Host.Outcome State Fault Refusal := runInstr .movAH (mov .a .h) s

/-- `MOV A,L`, 0x7D (R100). -/
def execMovAL (s : State) : Host.Outcome State Fault Refusal := runInstr .movAL (mov .a .l) s

/-- `MOV A,M`, 0x7E (R100). -/
def execMovAM (s : State) : Host.Outcome State Fault Refusal := runInstr .movAM (mov .a .m) s

/-- `MOV A,A`, 0x7F (R100). -/
def execMovAA (s : State) : Host.Outcome State Fault Refusal := runInstr .movAA (mov .a .a) s

/-- `XCHG`, 0xEB (R109). -/
def execXchg (s : State) : Host.Outcome State Fault Refusal := runInstr .xchg xchg s

end Sys2Proof.Machine
end

