-- ==== Sys2Proof/Machine/LogicalRotate.lean ====
section
/-! DEFINITION. Logical operations, rotates and carry controls (42_logical_rotate.md). The bodies come first, then one meaning per
instruction. -/

namespace Sys2Proof.Machine

/-- `A <- r; logic_flags(r)` (R150). -/
def putLogic (r : Byte) (s : State) : State := { s with a := r, f := logicFlags r s.f }

/-- AND of a byte (R151, R154). -/
def anaImm (v : Byte) : Body := fun s => .ok (putLogic (s.a &&& v) s, .primary)
/-- Exclusive OR of a byte (R152, R155). -/
def xraImm (v : Byte) : Body := fun s => .ok (putLogic (s.a ^^^ v) s, .primary)
/-- OR of a byte (R153, R156). -/
def oraImm (v : Byte) : Body := fun s => .ok (putLogic (s.a ||| v) s, .primary)

/-- ANA sss (R151). -/
def anaReg (r : Reg8) : Body := fun s => do anaImm (← r8 r s) s
/-- XRA sss (R152). -/
def xraReg (r : Reg8) : Body := fun s => do xraImm (← r8 r s) s
/-- ORA sss (R153). -/
def oraReg (r : Reg8) : Body := fun s => do oraImm (← r8 r s) s

/-- `A <- r; CY <- c`: a rotate writes no other flag. -/
def putRotate (x : Byte × Bool) (s : State) : State := { s with a := x.1, f := setCY x.2 s.f }

/-- RLC (R157). -/
def rlc : Body := fun s => .ok (putRotate (rotLeft s.a) s, .primary)
/-- RRC (R158). -/
def rrc : Body := fun s => .ok (putRotate (rotRight s.a) s, .primary)
/-- RAL (R159). -/
def ral : Body := fun s => .ok (putRotate (rotLeftCarry s.a (flagCY s.f)) s, .primary)
/-- RAR (R160). -/
def rar : Body := fun s => .ok (putRotate (rotRightCarry s.a (flagCY s.f)) s, .primary)

/-- STC (R161). -/
def stc : Body := fun s => .ok ({ s with f := setCY true s.f }, .primary)
/-- CMC (R162). -/
def cmc : Body := fun s => .ok ({ s with f := setCY (!flagCY s.f) s.f }, .primary)
/-- CMA (R163): no flag. -/
def cma : Body := fun s => .ok ({ s with a := ~~~s.a }, .primary)

/-! ### The meanings -/

/-- `RLC`, 0x07 (R157). -/
def execRlc (s : State) : Host.Outcome State Fault Refusal := runInstr .rlc rlc s

/-- `RRC`, 0x0F (R158). -/
def execRrc (s : State) : Host.Outcome State Fault Refusal := runInstr .rrc rrc s

/-- `RAL`, 0x17 (R159). -/
def execRal (s : State) : Host.Outcome State Fault Refusal := runInstr .ral ral s

/-- `RAR`, 0x1F (R160). -/
def execRar (s : State) : Host.Outcome State Fault Refusal := runInstr .rar rar s

/-- `CMA`, 0x2F (R163). -/
def execCma (s : State) : Host.Outcome State Fault Refusal := runInstr .cma cma s

/-- `STC`, 0x37 (R161). -/
def execStc (s : State) : Host.Outcome State Fault Refusal := runInstr .stc stc s

/-- `CMC`, 0x3F (R162). -/
def execCmc (s : State) : Host.Outcome State Fault Refusal := runInstr .cmc cmc s

/-- `ANA B`, 0xA0 (R151). -/
def execAnaB (s : State) : Host.Outcome State Fault Refusal := runInstr .anaB (anaReg .b) s

/-- `ANA C`, 0xA1 (R151). -/
def execAnaC (s : State) : Host.Outcome State Fault Refusal := runInstr .anaC (anaReg .c) s

/-- `ANA D`, 0xA2 (R151). -/
def execAnaD (s : State) : Host.Outcome State Fault Refusal := runInstr .anaD (anaReg .d) s

/-- `ANA E`, 0xA3 (R151). -/
def execAnaE (s : State) : Host.Outcome State Fault Refusal := runInstr .anaE (anaReg .e) s

/-- `ANA H`, 0xA4 (R151). -/
def execAnaH (s : State) : Host.Outcome State Fault Refusal := runInstr .anaH (anaReg .h) s

/-- `ANA L`, 0xA5 (R151). -/
def execAnaL (s : State) : Host.Outcome State Fault Refusal := runInstr .anaL (anaReg .l) s

/-- `ANA M`, 0xA6 (R151). -/
def execAnaM (s : State) : Host.Outcome State Fault Refusal := runInstr .anaM (anaReg .m) s

/-- `ANA A`, 0xA7 (R151). -/
def execAnaA (s : State) : Host.Outcome State Fault Refusal := runInstr .anaA (anaReg .a) s

/-- `XRA B`, 0xA8 (R152). -/
def execXraB (s : State) : Host.Outcome State Fault Refusal := runInstr .xraB (xraReg .b) s

/-- `XRA C`, 0xA9 (R152). -/
def execXraC (s : State) : Host.Outcome State Fault Refusal := runInstr .xraC (xraReg .c) s

/-- `XRA D`, 0xAA (R152). -/
def execXraD (s : State) : Host.Outcome State Fault Refusal := runInstr .xraD (xraReg .d) s

/-- `XRA E`, 0xAB (R152). -/
def execXraE (s : State) : Host.Outcome State Fault Refusal := runInstr .xraE (xraReg .e) s

/-- `XRA H`, 0xAC (R152). -/
def execXraH (s : State) : Host.Outcome State Fault Refusal := runInstr .xraH (xraReg .h) s

/-- `XRA L`, 0xAD (R152). -/
def execXraL (s : State) : Host.Outcome State Fault Refusal := runInstr .xraL (xraReg .l) s

/-- `XRA M`, 0xAE (R152). -/
def execXraM (s : State) : Host.Outcome State Fault Refusal := runInstr .xraM (xraReg .m) s

/-- `XRA A`, 0xAF (R152). -/
def execXraA (s : State) : Host.Outcome State Fault Refusal := runInstr .xraA (xraReg .a) s

/-- `ORA B`, 0xB0 (R153). -/
def execOraB (s : State) : Host.Outcome State Fault Refusal := runInstr .oraB (oraReg .b) s

/-- `ORA C`, 0xB1 (R153). -/
def execOraC (s : State) : Host.Outcome State Fault Refusal := runInstr .oraC (oraReg .c) s

/-- `ORA D`, 0xB2 (R153). -/
def execOraD (s : State) : Host.Outcome State Fault Refusal := runInstr .oraD (oraReg .d) s

/-- `ORA E`, 0xB3 (R153). -/
def execOraE (s : State) : Host.Outcome State Fault Refusal := runInstr .oraE (oraReg .e) s

/-- `ORA H`, 0xB4 (R153). -/
def execOraH (s : State) : Host.Outcome State Fault Refusal := runInstr .oraH (oraReg .h) s

/-- `ORA L`, 0xB5 (R153). -/
def execOraL (s : State) : Host.Outcome State Fault Refusal := runInstr .oraL (oraReg .l) s

/-- `ORA M`, 0xB6 (R153). -/
def execOraM (s : State) : Host.Outcome State Fault Refusal := runInstr .oraM (oraReg .m) s

/-- `ORA A`, 0xB7 (R153). -/
def execOraA (s : State) : Host.Outcome State Fault Refusal := runInstr .oraA (oraReg .a) s

/-- `ANI d8`, 0xE6 (R154). -/
def execAni (v : Byte) (s : State) : Host.Outcome State Fault Refusal := runInstr (.ani v) (anaImm v) s

/-- `XRI d8`, 0xEE (R155). -/
def execXri (v : Byte) (s : State) : Host.Outcome State Fault Refusal := runInstr (.xri v) (xraImm v) s

/-- `ORI d8`, 0xF6 (R156). -/
def execOri (v : Byte) (s : State) : Host.Outcome State Fault Refusal := runInstr (.ori v) (oraImm v) s

end Sys2Proof.Machine
end

