-- ==== Sys2Proof/Machine/StackIoMachine.lean ====
section
/-! DEFINITION. Stack, I/O and machine control (44_stack_io_machine.md): PUSH, POP, XTHL, SPHL, IN, OUT, HLT, NOP and its aliases, EI,
DI. The bodies come first, then one meaning per instruction. -/

namespace Sys2Proof.Machine

/-- PUSH rp (R190). -/
def push (p : StackPair) : Body := fun s => do
  let s ← push16 (stackPairValue p s) s
  return (s, .primary)

/-- POP rp (R191). -/
def pop (p : StackPair) : Body := fun s => do
  let (v, s) ← pop16 s
  return (setStackPair p v s, .primary)

/-- XTHL (R192), when it has a meaning: HL against the bytes at SP + 1 and SP + 2. -/
def xthl : Body := fun s =>
  if 0xFFFE ≤ s.sp.toNat then .error { kind := .stackPopOutOfRange, detail := some s.sp.toNat }
  else do
    let l ← memRead (s.sp.toNat + 1) s
    let h ← memRead (s.sp.toNat + 2) s
    let s ← memWrite (s.sp.toNat + 1) s.l s
    let s ← memWrite (s.sp.toNat + 2) s.h s
    return ({ s with l := l, h := h }, .primary)

/-- SPHL (R193), when it has a meaning. -/
def sphl : Body := fun s => .ok ({ s with sp := joinBytes s.h s.l }, .primary)

/-- IN port (R194). -/
def input (port : Byte) : Body := fun s =>
  let x := ioInput port s
  .ok ({ x.2 with a := x.1 }, .primary)

/-- OUT port (R195). The log is kept in the minimal build too (log entry 18). -/
def output (port : Byte) : Body := fun s => .ok ({ s with ioLog := s.ioLog ++ [(port, s.a)] }, .primary)

/-- HLT (R196). -/
def halt : Body := fun s => .ok (s, .halt)

/-- NOP and *NOP (R197, R198). -/
def noOp : Body := fun s => .ok (s, .primary)

/-- EI (R199), when it has a meaning. -/
def enableInt : Body := fun s => .ok ({ s with inte := true }, .primary)

/-- DI (R200), when it has a meaning. -/
def disableInt : Body := fun s => .ok ({ s with inte := false }, .primary)

/-! ### The meanings -/

/-- `NOP`, 0x00 (R197). -/
def execNop (s : State) : Host.Outcome State Fault Refusal := runInstr .nop noOp s

/-- `*NOP`, 0x08 (R198). -/
def execNopAlias08 (s : State) : Host.Outcome State Fault Refusal := runInstr .nopAlias08 noOp s

/-- `*NOP`, 0x10 (R198). -/
def execNopAlias10 (s : State) : Host.Outcome State Fault Refusal := runInstr .nopAlias10 noOp s

/-- `*NOP`, 0x18 (R198). -/
def execNopAlias18 (s : State) : Host.Outcome State Fault Refusal := runInstr .nopAlias18 noOp s

/-- `*NOP`, 0x20 (R198). -/
def execNopAlias20 (s : State) : Host.Outcome State Fault Refusal := runInstr .nopAlias20 noOp s

/-- `*NOP`, 0x28 (R198). -/
def execNopAlias28 (s : State) : Host.Outcome State Fault Refusal := runInstr .nopAlias28 noOp s

/-- `*NOP`, 0x30 (R198). -/
def execNopAlias30 (s : State) : Host.Outcome State Fault Refusal := runInstr .nopAlias30 noOp s

/-- `*NOP`, 0x38 (R198). -/
def execNopAlias38 (s : State) : Host.Outcome State Fault Refusal := runInstr .nopAlias38 noOp s

/-- `HLT`, 0x76 (R196). -/
def execHlt (s : State) : Host.Outcome State Fault Refusal := runInstr .hlt halt s

/-- `POP B`, 0xC1 (R191). -/
def execPopB (s : State) : Host.Outcome State Fault Refusal := runInstr .popB (pop .bc) s

/-- `PUSH B`, 0xC5 (R190). -/
def execPushB (s : State) : Host.Outcome State Fault Refusal := runInstr .pushB (push .bc) s

/-- `POP D`, 0xD1 (R191). -/
def execPopD (s : State) : Host.Outcome State Fault Refusal := runInstr .popD (pop .de) s

/-- `OUT d8`, 0xD3 (R195). -/
def execOutp (v : Byte) (s : State) : Host.Outcome State Fault Refusal := runInstr (.outp v) (output v) s

/-- `PUSH D`, 0xD5 (R190). -/
def execPushD (s : State) : Host.Outcome State Fault Refusal := runInstr .pushD (push .de) s

/-- `IN d8`, 0xDB (R194). -/
def execInp (v : Byte) (s : State) : Host.Outcome State Fault Refusal := runInstr (.inp v) (input v) s

/-- `POP H`, 0xE1 (R191). -/
def execPopH (s : State) : Host.Outcome State Fault Refusal := runInstr .popH (pop .hl) s

/-- `XTHL`, 0xE3 (R192). -/
def execXthl (s : State) : Host.Outcome State Fault Refusal := runInstr .xthl xthl s

/-- `PUSH H`, 0xE5 (R190). -/
def execPushH (s : State) : Host.Outcome State Fault Refusal := runInstr .pushH (push .hl) s

/-- `POP PSW`, 0xF1 (R191). -/
def execPopPsw (s : State) : Host.Outcome State Fault Refusal := runInstr .popPsw (pop .psw) s

/-- `DI`, 0xF3 (R200). -/
def execDi (s : State) : Host.Outcome State Fault Refusal := runInstr .di disableInt s

/-- `PUSH PSW`, 0xF5 (R190). -/
def execPushPsw (s : State) : Host.Outcome State Fault Refusal := runInstr .pushPsw (push .psw) s

/-- `SPHL`, 0xF9 (R193). -/
def execSphl (s : State) : Host.Outcome State Fault Refusal := runInstr .sphl sphl s

/-- `EI`, 0xFB (R199). -/
def execEi (s : State) : Host.Outcome State Fault Refusal := runInstr .ei enableInt s

end Sys2Proof.Machine
end

