-- ==== Sys2Proof/Machine/InstrStep.lean ====
section
/-! DEFINITION. Fetching an instruction (20_memory.md R56, R57), the instruction step `exec1` (30_encoding.md R88), the cycle step
(70_reset_and_hazards.md R250) and where a test places an instruction. -/

namespace Sys2Proof.Machine

/-- Fetch the operand bytes of an instruction of `n` bytes, byte 1 before byte 2 (60_exceptions.md R218); a byte the instruction
does not have is 0 and is not looked at. -/
def fetchOperands (n : Nat) (s : State) : Except Raise (Byte × Byte) :=
  match n with
  | 2 => do
    let (b1, _) ← fetch8 s
    return (b1, 0)
  | 3 => do
    let (b1, s) ← fetch8 s
    let (b2, _) ← fetch8 s
    return (b1, b2)
  | _ => .ok (0, 0)

/-- Fetch and decode the instruction at PC. A fault carries the opcode byte once it has been fetched (60_exceptions.md R212, R216). -/
def fetchInstr (s : State) : Except (Option Byte × Raise) Instr :=
  match fetch8 s with
  | .error x => .error (none, x)
  | .ok (op, s) =>
    match fetchOperands (rowOf op).len s with
    | .error x => .error (some op, x)
    | .ok (b1, b2) => .ok (decodeOp op b1 b2)

/-- The instruction step (30_encoding.md R88), with the priming of `wait` that R250 gives its result; defined when
`run = Running`. -/
def exec1 (s : State) : Host.Outcome State Fault Refusal :=
  match fetchInstr s with
  | .error (op, x) => .next (takeFault op x s)
  | .ok i => exec i s

/-- The cycle step `step()` (70_reset_and_hazards.md R250). No step is defined from Halted or Faulted (60_exceptions.md R232). -/
def cycleStep (s : State) : Host.Outcome State Fault Refusal :=
  match s.run with
  | .halted => .fault .noStepFromHalted
  | .faulted rec => .fault (.noStepFromFaulted rec)
  | .running => if 0 < s.wait then .next { s with wait := s.wait - 1 } else exec1 s

/-- `step()` returns true, "continue", exactly when the state it leaves is Running (70_reset_and_hazards.md R250). -/
def continues (s : State) : Bool := decide (s.run = .running)

/-- `run()` is `while(step()) {}` (70_reset_and_hazards.md R251), with at most `n` calls: it stops at Halted or at a fault. -/
def runUntilStop : Nat → State → State
  | 0, s => s
  | n + 1, s =>
    match cycleStep s with
    | .next t => if continues t then runUntilStop n t else t
    | .fault _ => s
    | .refused _ => s

/-- Three bytes placed at PC where they lie in memory, the core Running and owing no cycles, so that the next step fetches them. -/
def placeAtPc (bs : List Byte) (s : State) : State :=
  let room := s.params.memSize - s.pc.toNat
  { s with mem := writeBytes s.mem s.pc.toNat (bs.take room), run := .running, wait := 0 }

end Sys2Proof.Machine
end

