-- ==== Sys2Proof/Machine/Step.lean ====
section
/-! DEFINITION. The machine's step: the cycle step `step()` of 70_reset_and_hazards.md R250. -/

namespace Sys2Proof.Machine

/-- One call of `step()` (70_reset_and_hazards.md R250). -/
def step (s : State) : Host.Outcome State Fault Refusal := cycleStep s

/-- The state with an instruction's bits, numbered as spec/opcode_table.json numbers them, placed where the next step fetches
(log entry 19). -/
def State.withFetchWord (s : State) (nbits w : Nat) : State := placeAtPc (tableBytes nbits w) s

end Sys2Proof.Machine
end

