-- ==== Sys2Proof/Machine/Disasm.lean ====
section
/-! DEFINITION. The assembler syntax the spec keeps: the mnemonic of every opcode (30_encoding.md R89, in the opcode table) and the
disassembly line (R90). It is text a tool prints and no behaviour of the hardware. -/

namespace Sys2Proof.Machine

/-- A lower-case hexadecimal digit. -/
def hexDigit (n : Nat) : Char :=
  if n < 10 then Char.ofNat (48 + n) else Char.ofNat (87 + n)

/-- `n` in `width` lower-case hexadecimal digits (the case of operand digits: log entry 22). -/
def hexDigits : Nat → Nat → List Char
  | 0, _ => []
  | width + 1, n => hexDigits width (n / 16) ++ [hexDigit (n % 16)]

/-- Left-justified in 8 columns (30_encoding.md R90). -/
def padMnemonic (m : String) : List Char := m.toList ++ List.replicate (8 - m.length) ' '

/-- The operand text of a line (30_encoding.md R90): nothing, one byte, or `byte2 ++ byte1`. -/
def operandText : List Byte → List Char
  | [b1] => '0' :: 'x' :: hexDigits 2 b1.toNat
  | [b1, b2] => '0' :: 'x' :: hexDigits 4 (joinBytes b2 b1).toNat
  | _ => []

/-- The disassembly line of an instruction at an address (30_encoding.md R90). -/
def disasmLine (line : Nat) (i : Instr) : List Char :=
  '0' :: 'x' :: hexDigits 4 line ++ [' ', ' '] ++ padMnemonic (rowOf (opcodeOf i)).mnemonic ++ operandText (operandBytes i)

/-- The instructions of a byte stream, with at most `n` lines, and the bytes of a last incomplete instruction
(30_encoding.md R92). -/
def disasmStream : Nat → List Byte → List Instr × List Byte
  | 0, bs => ([], bs)
  | n + 1, bs =>
    match decode bs with
    | .ok (i, rest) => ((i :: (disasmStream n rest).1), (disasmStream n rest).2)
    | .error _ => ([], bs)

end Sys2Proof.Machine
end

