-- ==== Sys2Proof/Machine/Effects.lean ====
section
/-! DEFINITION. What each instruction may write, in the terms frame statements use: registers, flags and memory bytes. The lists
follow the instruction rules of files 40 to 44 and the summary table of 10_state.md section 4; no meaning reads them. An instruction that is
not named writes nothing of the kind. -/

namespace Sys2Proof.Machine

/-- The registers besides PC and F (10_state.md R20). -/
inductive RegName where
  | a | b | c | d | e | h | l | sp
  deriving DecidableEq, Repr

/-- The value of a register, 8-bit registers as numbers below 256. -/
def regValue (r : RegName) (s : State) : Nat :=
  match r with
  | .a => s.a.toNat
  | .b => s.b.toNat
  | .c => s.c.toNat
  | .d => s.d.toNat
  | .e => s.e.toNat
  | .h => s.h.toNat
  | .l => s.l.toNat
  | .sp => s.sp.toNat

/-- The named flags (10_state.md R29). -/
inductive FlagName where
  | s | z | ac | p | cy
  deriving DecidableEq, Repr

/-- The value of a flag. -/
def flagValue (n : FlagName) (f : Byte) : Bool :=
  match n with
  | .s => flagS f
  | .z => flagZ f
  | .ac => flagAC f
  | .p => flagP f
  | .cy => flagCY f

/-- The flags an instruction writes (10_state.md section 4, summary table). -/
def flagsWritten : Instr → List FlagName
  | .daa | .addB | .addC | .addD | .addE | .addH | .addL | .addM | .addA | .adcB | .adcC | .adcD | .adcE
  | .adcH | .adcL | .adcM | .adcA | .subB | .subC | .subD | .subE | .subH | .subL | .subM | .subA | .sbbB
  | .sbbC | .sbbD | .sbbE | .sbbH | .sbbL | .sbbM | .sbbA | .anaB | .anaC | .anaD | .anaE | .anaH | .anaL
  | .anaM | .anaA | .xraB | .xraC | .xraD | .xraE | .xraH | .xraL | .xraM | .xraA | .oraB | .oraC | .oraD
  | .oraE | .oraH | .oraL | .oraM | .oraA | .cmpB | .cmpC | .cmpD | .cmpE | .cmpH | .cmpL | .cmpM | .cmpA
  | .adi _ | .aci _ | .sui _ | .sbi _ | .ani _ | .xri _ | .popPsw | .ori _ | .cpi _ => [.s, .z, .ac, .p, .cy]
  | .inrB | .dcrB | .inrC | .dcrC | .inrD | .dcrD | .inrE | .dcrE | .inrH | .dcrH | .inrL | .dcrL | .inrM
  | .dcrM | .inrA | .dcrA => [.s, .z, .ac, .p]
  | .rlc | .dadB | .rrc | .ral | .dadD | .rar | .dadH | .stc | .dadSp | .cmc => [.cy]
  | _ => []

/-- The registers an instruction writes (files 40 to 44; SP also by R36). -/
def regsWritten : Instr → List RegName
  | .rlc | .ldaxB | .rrc | .ral | .ldaxD | .rar | .daa | .cma | .lda _ | .inrA | .dcrA | .mviA _ | .movAB
  | .movAC | .movAD | .movAE | .movAH | .movAL | .movAM | .movAA | .addB | .addC | .addD | .addE | .addH
  | .addL | .addM | .addA | .adcB | .adcC | .adcD | .adcE | .adcH | .adcL | .adcM | .adcA | .subB | .subC
  | .subD | .subE | .subH | .subL | .subM | .subA | .sbbB | .sbbC | .sbbD | .sbbE | .sbbH | .sbbL | .sbbM
  | .sbbA | .anaB | .anaC | .anaD | .anaE | .anaH | .anaL | .anaM | .anaA | .xraB | .xraC | .xraD | .xraE
  | .xraH | .xraL | .xraM | .xraA | .oraB | .oraC | .oraD | .oraE | .oraH | .oraL | .oraM | .oraA | .adi _
  | .aci _ | .sui _ | .inp _ | .sbi _ | .ani _ | .xri _ | .ori _ => [.a]
  | .inrB | .dcrB | .mviB _ | .movBB | .movBC | .movBD | .movBE | .movBH | .movBL | .movBM | .movBA => [.b]
  | .inrC | .dcrC | .mviC _ | .movCB | .movCC | .movCD | .movCE | .movCH | .movCL | .movCM | .movCA => [.c]
  | .inrD | .dcrD | .mviD _ | .movDB | .movDC | .movDD | .movDE | .movDH | .movDL | .movDM | .movDA => [.d]
  | .inrE | .dcrE | .mviE _ | .movEB | .movEC | .movED | .movEE | .movEH | .movEL | .movEM | .movEA => [.e]
  | .inrH | .dcrH | .mviH _ | .movHB | .movHC | .movHD | .movHE | .movHH | .movHL | .movHM | .movHA => [.h]
  | .inrL | .dcrL | .mviL _ | .movLB | .movLC | .movLD | .movLE | .movLH | .movLL | .movLM | .movLA => [.l]
  | .lxiSp _ | .inxSp | .dcxSp | .rnz | .cnz _ | .pushB | .rst0 | .rz | .ret | .cz _ | .call _ | .rst1 | .rnc
  | .cnc _ | .pushD | .rst2 | .rc | .retAlias | .cc _ | .callAliasDD _ | .rst3 | .rpo | .cpo _ | .pushH
  | .rst4 | .rpe | .cpe _ | .callAliasED _ | .rst5 | .rp | .cp _ | .pushPsw | .rst6 | .rm | .sphl | .cm _
  | .callAliasFD _ | .rst7 => [.sp]
  | .lxiB _ | .inxB | .dcxB => [.b, .c]
  | .lxiD _ | .inxD | .dcxD => [.d, .e]
  | .dadB | .dadD | .lxiH _ | .inxH | .dadH | .lhld _ | .dcxH | .dadSp | .xthl => [.h, .l]
  | .popPsw => [.sp, .a]
  | .popB => [.sp, .b, .c]
  | .popD => [.sp, .d, .e]
  | .popH => [.sp, .h, .l]
  | .xchg => [.d, .e, .h, .l]
  | _ => []

/-- The addresses an instruction stores to when it completes, computed on the state before it: the M operand, the direct
address, the BC or DE address, or the two stack bytes at the old SP and old SP - 1 (20_memory.md R62, R64). -/
def storeAddrs (i : Instr) (s : State) : List Nat :=
  match i with
  | .sta v => [v.toNat]
  | .shld v => [v.toNat, v.toNat + 1]
  | .inrM | .dcrM | .mviM _ | .movMB | .movMC | .movMD | .movME | .movMH | .movML | .movMA => [hlAddr s]
  | .staxB => [indexAddr .bc s]
  | .staxD => [indexAddr .de s]
  | .xthl => [s.sp.toNat + 1, s.sp.toNat + 2]
  | .pushB | .rst0 | .call _ | .rst1 | .pushD | .rst2 | .callAliasDD _ | .rst3 | .pushH | .rst4
  | .callAliasED _ | .rst5 | .pushPsw | .rst6 | .callAliasFD _ | .rst7 => [s.sp.toNat, s.sp.toNat - 1]
  | .cc _ => if condHolds .c s.f then [s.sp.toNat, s.sp.toNat - 1] else []
  | .cm _ => if condHolds .m s.f then [s.sp.toNat, s.sp.toNat - 1] else []
  | .cnc _ => if condHolds .nc s.f then [s.sp.toNat, s.sp.toNat - 1] else []
  | .cnz _ => if condHolds .nz s.f then [s.sp.toNat, s.sp.toNat - 1] else []
  | .cp _ => if condHolds .p s.f then [s.sp.toNat, s.sp.toNat - 1] else []
  | .cpe _ => if condHolds .pe s.f then [s.sp.toNat, s.sp.toNat - 1] else []
  | .cpo _ => if condHolds .po s.f then [s.sp.toNat, s.sp.toNat - 1] else []
  | .cz _ => if condHolds .z s.f then [s.sp.toNat, s.sp.toNat - 1] else []
  | _ => []

end Sys2Proof.Machine
end

