-- ==== Sys2Proof/WellFormed.lean ====
section
/-! DEFINITION. What makes an instruction and a launch legal: the format of each instruction (30_encoding.md R76) and its
length (R75, R87), the ranges of the parameters (00_scope.md R5, R8), and the image that fits (70_reset_and_hazards.md
R240). Operand ranges need no check: the types of the operands are those widths. -/

namespace Sys2Proof

/-- The three instruction formats (30_encoding.md R76). -/
inductive Format where
  | op
  | opD8
  | opD16
  deriving DecidableEq, Repr

/-- The number of bytes of a format (R76). -/
def Format.bytes : Format → Nat
  | .op => 1
  | .opD8 => 2
  | .opD16 => 3

/-- The format of an instruction (R76, column "used by"). -/
def Instr.format : Instr → Format
  | .mviB _ | .mviC _ | .mviD _ | .mviE _ | .mviH _ | .mviL _ | .mviM _ | .mviA _ | .adi _ | .aci _ | .outp _
  | .sui _ | .inp _ | .sbi _ | .ani _ | .xri _ | .ori _ | .cpi _ => .opD8
  | .lxiB _ | .lxiD _ | .lxiH _ | .shld _ | .lhld _ | .lxiSp _ | .sta _ | .lda _ | .jnz _ | .jmp _ | .cnz _
  | .jz _ | .jmpAlias _ | .cz _ | .call _ | .jnc _ | .cnc _ | .jc _ | .cc _ | .callAliasDD _ | .jpo _
  | .cpo _ | .jpe _ | .cpe _ | .callAliasED _ | .jp _ | .cp _ | .jm _ | .cm _ | .callAliasFD _ => .opD16
  | .nop | .staxB | .inxB | .inrB | .dcrB | .rlc | .nopAlias08 | .dadB | .ldaxB | .dcxB | .inrC | .dcrC
  | .rrc | .nopAlias10 | .staxD | .inxD | .inrD | .dcrD | .ral | .nopAlias18 | .dadD | .ldaxD | .dcxD | .inrE
  | .dcrE | .rar | .nopAlias20 | .inxH | .inrH | .dcrH | .daa | .nopAlias28 | .dadH | .dcxH | .inrL | .dcrL
  | .cma | .nopAlias30 | .inxSp | .inrM | .dcrM | .stc | .nopAlias38 | .dadSp | .dcxSp | .inrA | .dcrA | .cmc
  | .movBB | .movBC | .movBD | .movBE | .movBH | .movBL | .movBM | .movBA | .movCB | .movCC | .movCD | .movCE
  | .movCH | .movCL | .movCM | .movCA | .movDB | .movDC | .movDD | .movDE | .movDH | .movDL | .movDM | .movDA
  | .movEB | .movEC | .movED | .movEE | .movEH | .movEL | .movEM | .movEA | .movHB | .movHC | .movHD | .movHE
  | .movHH | .movHL | .movHM | .movHA | .movLB | .movLC | .movLD | .movLE | .movLH | .movLL | .movLM | .movLA
  | .movMB | .movMC | .movMD | .movME | .movMH | .movML | .hlt | .movMA | .movAB | .movAC | .movAD | .movAE
  | .movAH | .movAL | .movAM | .movAA | .addB | .addC | .addD | .addE | .addH | .addL | .addM | .addA | .adcB
  | .adcC | .adcD | .adcE | .adcH | .adcL | .adcM | .adcA | .subB | .subC | .subD | .subE | .subH | .subL
  | .subM | .subA | .sbbB | .sbbC | .sbbD | .sbbE | .sbbH | .sbbL | .sbbM | .sbbA | .anaB | .anaC | .anaD
  | .anaE | .anaH | .anaL | .anaM | .anaA | .xraB | .xraC | .xraD | .xraE | .xraH | .xraL | .xraM | .xraA
  | .oraB | .oraC | .oraD | .oraE | .oraH | .oraL | .oraM | .oraA | .cmpB | .cmpC | .cmpD | .cmpE | .cmpH
  | .cmpL | .cmpM | .cmpA | .rnz | .popB | .pushB | .rst0 | .rz | .ret | .rst1 | .rnc | .popD | .pushD
  | .rst2 | .rc | .retAlias | .rst3 | .rpo | .popH | .xthl | .pushH | .rst4 | .rpe | .pchl | .xchg | .rst5
  | .rp | .popPsw | .di | .pushPsw | .rst6 | .rm | .sphl | .ei | .rst7 => .op

/-- A length is 1, 2 or 3 (30_encoding.md R87; a table with any other is refused, 93_implementation_defined.md G8). -/
def lengthWf (n : Nat) : Bool := decide (1 ≤ n) && decide (n ≤ 3)

/-- An instruction is well formed when its format has a legal length. -/
def Instr.wf (i : Instr) : Bool := lengthWf i.format.bytes

/-- `MEM_SIZE` lies in 1 .. 65536 (00_scope.md R5). -/
def memSizeWf (n : Nat) : Bool := decide (1 ≤ n) && decide (n ≤ 65536)

/-- `DAA_MODE = Execute` is permitted only together with `AC_MODE = Computed` (00_scope.md R8). -/
def daaModeWf (d : OpcodeMode) (a : AcMode) : Bool :=
  match d, a with
  | .fault, _ => true
  | .execute, .computed => true
  | .execute, .zero => false

/-- The parameters are permitted (00_scope.md R5, R8). -/
def Params.wf (p : Params) : Bool := memSizeWf p.memSize && daaModeWf p.daaMode p.acMode

/-- The image fits: `LOAD_OFFSET + length(image) <= MEM_SIZE` (70_reset_and_hazards.md R240). -/
def Params.imageFits (p : Params) (image : List Byte) : Bool :=
  decide (p.loadOffset.toNat + image.length ≤ p.memSize)

end Sys2Proof
end

