-- ==== Sys2Proof/Machine/Launch.lean ====
section
/-! DEFINITION. Constructing an interpreter instance (70_reset_and_hazards.md R240, R258): the one reset there is. -/

namespace Sys2Proof.Machine

/-- Construct an instance: memory set by INIT_MEM (the given cells below MEM_SIZE, every other byte as an unlisted address
reads), then the image copied at LOAD_OFFSET, then the register state of R241. An image that does not fit is refused. -/
def launch (p : Params) (initMem : List Host.Cell) (image : List Byte) : Host.Outcome State Fault Refusal :=
  if p.wf then
    if p.imageFits image then
      let filled := writeCells [] (initMem.filter fun c => decide (c.1 < p.memSize))
      .next (State.atLaunch p (writeBytes filled p.loadOffset.toNat image))
    else .refused .imageDoesNotFit
  else .refused .parametersNotPermitted

end Sys2Proof.Machine
end

