-- ==== Sys2Proof/Safety.lean ====
section
/-! DEFINITION. The terms claims use: the invariant every step keeps, a safe state, the successful end of a run, when an operand or
the stack can be accessed, and the states an instruction's rule speaks of. -/

namespace Sys2Proof.Machine

/-- F bits 1, 3, 5 are 1, 0, 0 (10_state.md R31). -/
def State.flagsFixed (s : State) : Prop := s.f &&& 0x2A = 0x02

/-- What holds at every launch and after every step. -/
structure State.Inv (s : State) : Prop where
  /-- Memory is in its canonical form. -/
  memCanonical : Memory.wf s.mem = true
  /-- Every listed byte lies below MEM_SIZE: `mem` is an array of MEM_SIZE bytes (20_memory.md R50). -/
  memBounded : boundedBy s.params.memSize s.mem = true
  /-- F bits 1, 3, 5 are 1, 0, 0 (10_state.md R31). -/
  flags : s.flagsFixed
  /-- The parameters are permitted (00_scope.md R5, R8). -/
  params : s.params.wf = true
  /-- A stopped core owes no cycles: HLT primes nothing, and a fault leaves `wait` at 0 (60_exceptions.md R212). -/
  waitStopped : s.run ≠ .running → s.wait = 0
  /-- INTE does not exist, and reads 0 in the model, unless UNLISTED_OPS = Execute (10_state.md R40). -/
  inteAbsent : s.params.unlistedOps = .fault → s.inte = false

/-- A state is safe when no fault has been raised. -/
def State.safe (s : State) : Prop := ∀ rec, s.run ≠ .faulted rec

/-- The only successful end of a run is Halted (60_exceptions.md R232). -/
def State.endsWell (s : State) : Prop := s.run = .halted

/-- The byte a register operand can name exists: M needs H:L below MEM_SIZE (10_state.md R22). -/
def operandOk (r : Reg8) (s : State) : Prop := r = .m → hlAddr s < s.params.memSize

/-- The value of a register operand that exists (10_state.md R22). -/
def operandValue (r : Reg8) (s : State) : Byte :=
  match r with
  | .b => s.b
  | .c => s.c
  | .d => s.d
  | .e => s.e
  | .h => s.h
  | .l => s.l
  | .m => readMem s.mem (hlAddr s)
  | .a => s.a

/-- The state with a register operand written, when it exists (10_state.md R23). -/
def setOperand (r : Reg8) (v : Byte) (s : State) : State :=
  match r with
  | .b => { s with b := v }
  | .c => { s with c := v }
  | .d => { s with d := v }
  | .e => { s with e := v }
  | .h => { s with h := v }
  | .l => { s with l := v }
  | .m => { s with mem := writeMem s.mem (hlAddr s) v }
  | .a => { s with a := v }

/-- A push finds room: SP is at least 2 and the old SP lies in memory (20_memory.md R60). -/
def pushOk (s : State) : Prop := 2 ≤ s.sp.toNat ∧ s.sp.toNat < s.params.memSize

/-- The state after `push16(v)` (20_memory.md R60). -/
def afterPush (v : Word) (s : State) : State :=
  { s with sp := s.sp - 2, mem := writeMem (writeMem s.mem s.sp.toNat (hi v)) (s.sp.toNat - 1) (lo v) }

/-- A pop finds its bytes: SP is below 0xFFFE and SP + 2 lies in memory (20_memory.md R61). -/
def popOk (s : State) : Prop := s.sp.toNat < 0xFFFE ∧ s.sp.toNat + 2 < s.params.memSize

/-- The value on top of the stack: the high byte at SP + 2, the low byte at SP + 1 (20_memory.md R62). -/
def stackTop (s : State) : Word := joinBytes (readMem s.mem (s.sp.toNat + 2)) (readMem s.mem (s.sp.toNat + 1))

/-- The state a fault leaves (60_exceptions.md R212): everything as it was, and the record in `run`. -/
def faultedWith (s : State) (k : FaultKind) (opcode : Option Byte) (detail : Option Nat) : State :=
  { s with run := .faulted { kind := k, pc := s.pc, opcode := opcode, detail := detail } }

/-- The state a fault raised by instruction `i` leaves (60_exceptions.md R212). -/
def faultedAt (i : Instr) (s : State) (k : FaultKind) (detail : Option Nat) : State :=
  faultedWith s k (some (opcodeOf i)) detail

/-- Instruction `i` at this state ends in a fault of this kind. -/
def raises (i : Instr) (s : State) (k : FaultKind) : Prop :=
  ∃ d, exec i s = .next (faultedAt i s k d)

/-- Instruction `i` pushes at this state (60_exceptions.md R214). -/
def pushesNow (i : Instr) (s : State) : Prop :=
  (∃ p, i = pushInstr p) ∨ (∃ v, i ∈ callInstrs v) ∨ (∃ k v, i = cccInstr k v ∧ condHolds k s.f = true) ∨ (∃ n, i = rstInstr n)

/-- Instruction `i` pops, or accesses the top of the stack, at this state (60_exceptions.md R215). -/
def popsNow (i : Instr) (s : State) : Prop :=
  (∃ p, i = popInstr p) ∨ i ∈ retInstrs ∨ (∃ k, i = rccInstr k ∧ condHolds k s.f = true) ∨ i = .xthl

/-- Instruction `i` returns Alternate at this state: a conditional call or return not taken (70_reset_and_hazards.md R255). -/
def notTaken (i : Instr) (s : State) : Prop :=
  (∃ k v, i = cccInstr k v ∧ condHolds k s.f = false) ∨ (∃ k, i = rccInstr k ∧ condHolds k s.f = false)

/-- The instructions the source never mentions (00_scope.md R9). -/
def unlistedInstrs : List Instr :=
  [.xthl, .sphl, .pchl, .ei, .di, .rst0, .rst1, .rst2, .rst3, .rst4, .rst5, .rst6, .rst7]

end Sys2Proof.Machine
end

