-- ==== Sys2Proof/Certificates/Slice0/Obligations.lean ====
section
/-! DEFINITION. The statements for the provers. Each docstring names the rule of spec/ it formalises. Every statement is over all
states, hence over all parameter values (log entry 1) and all memory contents. "Ground" names what a statement rests on that the
spec marks as its own (a decision D<n> of 92_eei_decisions.md, a derivation, general knowledge) or the model chose (a log entry of
notes/assumptions). The value of `wait` in an instruction's end state is the duration of R256 less 1 (R250). -/

open Sys2Proof Sys2Proof.Machine

/-! ### Launch and reset -/

/-- The registers, F, PC, SP, run, wait, INTE and io_log right after every launch (R41 to R47). Ground: run and wait (R45) are
marked derived by the spec and INTE (R46) its decision D15; that the parameters stand in State is log entry 1. -/
def Obligations.LaunchGivesResetRegisters : Prop :=
  ∀ (p : Params) (initMem : List Host.Cell) (image : List Byte) (s : State), launch p initMem image = .next s →
    s.a = 0 ∧ s.b = 0 ∧ s.c = 0 ∧ s.d = 0 ∧ s.e = 0 ∧ s.h = 0 ∧ s.l = 0 ∧ s.f = 0x02 ∧
    flagS s.f = false ∧ flagZ s.f = false ∧ flagAC s.f = false ∧ flagP s.f = false ∧ flagCY s.f = false ∧
    s.pc = p.loadOffset ∧ s.sp = p.loadOffset ∧ s.run = .running ∧ s.wait = 0 ∧ s.inte = false ∧ s.ioLog = [] ∧
    s.params = p

/-- Memory right after a launch: the image at LOAD_OFFSET onward, INIT_MEM's byte at every other address (R44, R240). INIT_MEM is
given as cells over the unlisted byte (log entry 5). Ground: it rests on decision D10 and log entry 5. -/
def Obligations.LaunchLoadsImageAndInitMem : Prop :=
  ∀ (p : Params) (initMem : List Host.Cell) (image : List Byte) (s : State), launch p initMem image = .next s →
    (∀ k (h : k < image.length), readMem s.mem (p.loadOffset.toNat + k) = image[k]) ∧
    (∀ a, a < p.memSize → ¬ (p.loadOffset.toNat ≤ a ∧ a < p.loadOffset.toNat + image.length) →
      readMem s.mem a = readMem (writeCells [] initMem) a)

/-- A launch is refused exactly when the parameters are not permitted or the image does not fit (R5, R8, R240). Ground: it rests
on decisions D4, D6 and D10; that the launch checks the parameters is log entry 17. -/
def Obligations.LaunchRefusals : Prop :=
  ∀ (p : Params) (initMem : List Host.Cell) (image : List Byte),
    (p.wf = true ↔ 1 ≤ p.memSize ∧ p.memSize ≤ 65536 ∧ (p.daaMode = .execute → p.acMode = .computed)) ∧
    (p.wf = true → p.loadOffset.toNat + image.length ≤ p.memSize → ∃ s, launch p initMem image = .next s) ∧
    (p.wf = true → p.memSize < p.loadOffset.toNat + image.length →
      launch p initMem image = .refused .imageDoesNotFit) ∧
    (p.wf = false → launch p initMem image = .refused .parametersNotPermitted)

/-- The reset state is the launch with the default parameters and no image, and the invariant holds of it. Ground: the default
parameters and the empty memory are the model's choices, log entries 2, 3, 4, 5 and 23. -/
def Obligations.ResetIsDefaultLaunchAndInvariant : Prop :=
  launch defaultParams [] [] = .next State.reset ∧ State.reset.Inv

/-- The invariant holds of every launch. Ground: the form of the invariant is the model's, log entries 5, 12, 13 and 17. -/
def Obligations.LaunchEstablishesInvariant : Prop :=
  ∀ (p : Params) (initMem : List Host.Cell) (image : List Byte) (s : State),
    launch p initMem image = .next s → s.Inv

/-! ### Memory and the stack -/

/-- A read after a write gives the value at that address, and every other address reads as before (R54). Ground: the spec marks
R54 derived. -/
def Obligations.MemoryReadAfterWrite : Prop :=
  ∀ (s t : State) (a : Nat) (v : Byte), Memory.wf s.mem = true → memWrite a v s = .ok t →
    memRead a t = .ok v ∧ ∀ b, b ≠ a → memRead b t = memRead b s

/-- MemRead and MemWrite below MEM_SIZE and at or above it (R52, R53). Ground: it rests on decisions D6 and D7. -/
def Obligations.MemoryBounds : Prop :=
  ∀ (s : State) (a : Nat) (v : Byte),
    (a < s.params.memSize → memRead a s = .ok (readMem s.mem a) ∧ memWrite a v s = .ok { s with mem := writeMem s.mem a v }) ∧
    (s.params.memSize ≤ a → memRead a s = .error { kind := .memoryOutOfRange, detail := some a } ∧
      memWrite a v s = .error { kind := .memoryOutOfRange, detail := some a }) ∧
    (s.params.wf = true → memRead 0x10000 s = .error { kind := .memoryOutOfRange, detail := some 0x10000 })

/-- Two memories in canonical form that read alike at every address are the same data (log entry 5). Ground: the sparse form of
memory is the model's, log entry 5. -/
def Obligations.EqualMemoriesAreEqualData : Prop :=
  ∀ m n : Memory, Memory.wf m = true → Memory.wf n = true → (∀ a, readMem m a = readMem n a) → m = n

/-- `push16` (R60): the guard, the bytes and where they go, the fault beyond memory. Ground: the fault beyond memory rests on
decision D6. -/
def Obligations.PushWritesTwoBytes : Prop :=
  ∀ (v : Word) (s : State),
    (s.sp.toNat ≤ 1 → push16 v s = .error { kind := .stackUnderflowProtection, detail := some s.sp.toNat }) ∧
    (2 ≤ s.sp.toNat → s.params.memSize ≤ s.sp.toNat →
      push16 v s = .error { kind := .memoryOutOfRange, detail := some s.sp.toNat }) ∧
    (pushOk s → push16 v s = .ok (afterPush v s))

/-- `pop16` (R61): the guard, the bytes it reads, the fault beyond memory. Ground: it rests on decisions D6 and D9. -/
def Obligations.PopReadsTwoBytes : Prop :=
  ∀ s : State,
    (0xFFFE ≤ s.sp.toNat → pop16 s = .error { kind := .stackPopOutOfRange, detail := some s.sp.toNat }) ∧
    (s.sp.toNat < 0xFFFE → s.params.memSize ≤ s.sp.toNat + 2 →
      pop16 s = .error { kind := .memoryOutOfRange, detail := some (s.sp.toNat + 2) }) ∧
    (popOk s → pop16 s = .ok (stackTop s, { s with sp := s.sp + 2 }))

/-- After a push from SP = s the value stands at s (high) and s - 1 (low), and a pop gives it back and restores SP (R62). Ground:
the spec marks R62 derived. -/
def Obligations.PopUndoesPush : Prop :=
  ∀ (v : Word) (s t : State), Memory.wf s.mem = true → push16 v s = .ok t →
    t.sp = s.sp - 2 ∧ readMem t.mem s.sp.toNat = hi v ∧ readMem t.mem (s.sp.toNat - 1) = lo v ∧
    readMem t.mem (t.sp.toNat + 2) = hi v ∧ readMem t.mem (t.sp.toNat + 1) = lo v ∧
    pop16 t = .ok (v, { t with sp := s.sp })

/-! ### Registers and flags -/

/-- A register operand reads back what was written to it, and no other register operand but M changes (R22, R23). Ground: the fault
of a write of M beyond memory is R53's (decision D6), and that M reads back is R54, which the spec marks derived. -/
def Obligations.RegisterOperandReadAfterWrite : Prop :=
  ∀ (r : Reg8) (v : Byte) (s : State), Memory.wf s.mem = true →
    (operandOk r s → r8 r s = .ok (operandValue r s) ∧ w8 r v s = .ok (setOperand r v s) ∧
      r8 r (setOperand r v s) = .ok v) ∧
    (¬ operandOk r s → r8 r s = .error { kind := .memoryOutOfRange, detail := some (hlAddr s) } ∧
      w8 r v s = .error { kind := .memoryOutOfRange, detail := some (hlAddr s) }) ∧
    (∀ q, q ≠ r → q ≠ .m → operandValue q (setOperand r v s) = operandValue q s)

/-- Register pairs: the high register gets hi(v), the low one lo(v); a pair reads back, the others are unchanged (R26, R27). -/
def Obligations.PairReadAfterWrite : Prop :=
  ∀ (p : Pair) (v : Word) (s : State),
    rp16 p (setrp16 p v s) = v ∧ (∀ q, q ≠ p → rp16 q (setrp16 p v s) = rp16 q s) ∧
    (setrp16 .bc v s).b = hi v ∧ (setrp16 .bc v s).c = lo v ∧ (setrp16 .de v s).d = hi v ∧ (setrp16 .de v s).e = lo v ∧
    (setrp16 .hl v s).h = hi v ∧ (setrp16 .hl v s).l = lo v ∧
    rp16 .bc s = joinBytes s.b s.c ∧ rp16 .de s = joinBytes s.d s.e ∧ rp16 .hl s = joinBytes s.h s.l ∧ rp16 .sp s = s.sp ∧
    (joinBytes (hi v) (lo v) = v)

/-- The PSW: A gets hi(v), F the five flag bits of lo(v) with bits 1, 3, 5 forced to 1, 0, 0, in both AC modes (R28, R31). Ground:
R28 rests on decision D20. -/
def Obligations.PswWriteForcesFixedBits : Prop :=
  ∀ (v : Word) (s : State),
    psw16 s = joinBytes s.a s.f ∧ (setpsw16 v s).a = hi v ∧ (setpsw16 v s).f = (lo v &&& 0xD5) ||| 0x02 ∧
    (setpsw16 v s).flagsFixed ∧
    (∀ n, flagValue n (setpsw16 v s).f = flagValue n (lo v)) ∧
    (s.flagsFixed → setpsw16 (psw16 s) s = s)

/-- F is its five flags and its fixed bits, and writing a named flag changes that bit only (R30). -/
def Obligations.FlagWritesChangeOneBit : Prop :=
  (∀ f : Byte, f &&& 0x2A = 0x02 →
    f.toNat = (flagS f).toNat * 128 + (flagZ f).toNat * 64 + (flagAC f).toNat * 16 + (flagP f).toNat * 4 + 2 +
      (flagCY f).toNat) ∧
  ∀ (v : Bool) (f : Byte) (j : Nat), j < 8 →
    (setS v f).getLsbD j = (if j = 7 then v else f.getLsbD j) ∧ (setZ v f).getLsbD j = (if j = 6 then v else f.getLsbD j) ∧
    (setAC v f).getLsbD j = (if j = 4 then v else f.getLsbD j) ∧ (setP v f).getLsbD j = (if j = 2 then v else f.getLsbD j) ∧
    (setCY v f).getLsbD j = (if j = 0 then v else f.getLsbD j)

/-- The standard flag update on an 8-bit result (R32): Z, S and even parity; no other bit changes. -/
def Obligations.StandardFlagUpdate : Prop :=
  ∀ r f : Byte,
    (flagZ (szp r f) = true ↔ r.toNat = 0) ∧ (flagS (szp r f) = true ↔ 128 ≤ r.toNat) ∧
    (flagP (szp r f) = true ↔
      ((r.getLsbD 0).toNat + (r.getLsbD 1).toNat + (r.getLsbD 2).toNat + (r.getLsbD 3).toNat + (r.getLsbD 4).toNat +
        (r.getLsbD 5).toNat + (r.getLsbD 6).toNat + (r.getLsbD 7).toNat) % 2 = 0) ∧
    flagAC (szp r f) = flagAC f ∧ flagCY (szp r f) = flagCY f ∧ szp r f &&& 0x2A = f &&& 0x2A

/-- The adder (R120): the sum modulo 256, the carry out of bit 7, the carry from bit 3. -/
def Obligations.AdderResultAndCarries : Prop :=
  ∀ (a b : Byte) (cin : Bool),
    (add8 a b cin).1.toNat = (a.toNat + b.toNat + cin.toNat) % 256 ∧
    ((add8 a b cin).2.1 = true ↔ 256 ≤ a.toNat + b.toNat + cin.toNat) ∧
    ((add8 a b cin).2.2 = true ↔ 16 ≤ (a &&& 0xF).toNat + (b &&& 0xF).toNat + cin.toNat)

/-- The subtractor (R121): one sum `a + ~b + 1 - bin`; the result is the difference modulo 256, CY is the borrow, AC the sum's
carry from bit 3. Ground: it rests on decision D2. -/
def Obligations.SubtractorResultAndBorrow : Prop :=
  ∀ (a b : Byte) (bin : Bool),
    (sub8 a b bin).1.toNat = (a.toNat + (255 - b.toNat) + (1 - bin.toNat)) % 256 ∧
    (sub8 a b bin).1.toNat = (a.toNat + 512 - b.toNat - bin.toNat) % 256 ∧
    ((sub8 a b bin).2.1 = true ↔ a.toNat + (255 - b.toNat) + (1 - bin.toNat) < 256) ∧
    ((sub8 a b bin).2.1 = true ↔ a.toNat < b.toNat + bin.toNat) ∧
    ((sub8 a b bin).2.2 = true ↔ 16 ≤ (a &&& 0xF).toNat + (~~~b &&& 0xF).toNat + (1 - bin.toNat))

/-- The arithmetic update (R122), the INR and DCR update, and the logical update (R150), flag by flag. Ground: the AC clause of
R122 rests on decision D1. -/
def Obligations.ArithmeticAndLogicFlags : Prop :=
  ∀ (mode : AcMode) (r f : Byte) (cy ac : Bool) (n : FlagName),
    flagValue n (arithFlags mode r cy ac f) =
      (match n with | .cy => cy | .ac => (match mode with | .computed => ac | .zero => false) | n => flagValue n (szp r f)) ∧
    flagValue n (stepFlags mode r ac f) =
      (match n with
        | .cy => flagCY f
        | .ac => (match mode with | .computed => ac | .zero => false)
        | n => flagValue n (szp r f)) ∧
    flagValue n (logicFlags r f) = (match n with | .cy => false | .ac => false | n => flagValue n (szp r f)) ∧
    arithFlags mode r cy ac f &&& 0x2A = f &&& 0x2A ∧ stepFlags mode r ac f &&& 0x2A = f &&& 0x2A ∧
    logicFlags r f &&& 0x2A = f &&& 0x2A

/-- The branch test (R170). -/
def Obligations.BranchConditions : Prop :=
  ∀ f : Byte,
    (condHolds .nz f = true ↔ flagZ f = false) ∧ (condHolds .z f = true ↔ flagZ f = true) ∧
    (condHolds .nc f = true ↔ flagCY f = false) ∧ (condHolds .c f = true ↔ flagCY f = true) ∧
    (condHolds .po f = true ↔ flagP f = false) ∧ (condHolds .pe f = true ↔ flagP f = true) ∧
    (condHolds .p f = true ↔ flagS f = false) ∧ (condHolds .m f = true ↔ flagS f = true)

/-! ### Data movement -/

/-- MOV ddd,sss, 63 rows (R100). -/
def Obligations.MovCopiesOneByte : Prop :=
  ∀ (dst src : Reg8) (s : State),
    (movInstr dst src = none ↔ dst = .m ∧ src = .m) ∧
    ∀ i : Instr, movInstr dst src = some i →
      encode i = [(0b01#2 ++ codeOfReg8 dst ++ codeOfReg8 src : BitVec 8)] ∧
      (operandOk src s → operandOk dst s →
        exec i s = .next { setOperand dst (operandValue src s) s with
          pc := s.pc + 1, wait := if dst = .m ∨ src = .m then 6 else 4 }) ∧
      (¬ (operandOk src s ∧ operandOk dst s) →
        exec i s = .next (faultedAt i s .memoryOutOfRange (some (hlAddr s))))

/-- MVI ddd,d8 and LXI rp,d16 (R101, R102). -/
def Obligations.ImmediateLoads : Prop :=
  (∀ (dst : Reg8) (v : Byte) (s : State),
    encode (mviInstr dst v) = [(0b00#2 ++ codeOfReg8 dst ++ 0b110#3 : BitVec 8), v] ∧
    (operandOk dst s →
      exec (mviInstr dst v) s = .next { setOperand dst v s with pc := s.pc + 2, wait := if dst = .m then 9 else 6 }) ∧
    (¬ operandOk dst s →
      exec (mviInstr dst v) s = .next (faultedAt (mviInstr dst v) s .memoryOutOfRange (some (hlAddr s))))) ∧
  ∀ (p : Pair) (v : Word) (s : State),
    encode (lxiInstr p v) = [(0b00#2 ++ codeOfPair p ++ 0b0001#4 : BitVec 8), lo v, hi v] ∧
    exec (lxiInstr p v) s = .next { setrp16 p v s with pc := s.pc + 3, wait := 9 }

/-- LDA, STA, LDAX and STAX (R103 to R106). Ground: the durations 13 and 7 rest on decision D18. -/
def Obligations.AccumulatorLoadsAndStores : Prop :=
  (∀ (v : Word) (s : State),
    encode (.lda v) = [0x3A, lo v, hi v] ∧ encode (.sta v) = [0x32, lo v, hi v] ∧
    (v.toNat < s.params.memSize →
      exec (.lda v) s = .next { s with a := readMem s.mem v.toNat, pc := s.pc + 3, wait := 12 } ∧
      exec (.sta v) s = .next { s with mem := writeMem s.mem v.toNat s.a, pc := s.pc + 3, wait := 12 }) ∧
    (s.params.memSize ≤ v.toNat →
      exec (.lda v) s = .next (faultedAt (.lda v) s .memoryOutOfRange (some v.toNat)) ∧
      exec (.sta v) s = .next (faultedAt (.sta v) s .memoryOutOfRange (some v.toNat)))) ∧
  ∀ (p : IndexPair) (s : State),
    indexAddr .bc s = (rp16 .bc s).toNat ∧ indexAddr .de s = (rp16 .de s).toNat ∧
    encode (ldaxInstr .bc) = [0x0A] ∧ encode (ldaxInstr .de) = [0x1A] ∧
    encode (staxInstr .bc) = [0x02] ∧ encode (staxInstr .de) = [0x12] ∧
    (indexAddr p s < s.params.memSize →
      exec (ldaxInstr p) s = .next { s with a := readMem s.mem (indexAddr p s), pc := s.pc + 1, wait := 6 } ∧
      exec (staxInstr p) s = .next { s with mem := writeMem s.mem (indexAddr p s) s.a, pc := s.pc + 1, wait := 6 }) ∧
    (s.params.memSize ≤ indexAddr p s →
      exec (ldaxInstr p) s = .next (faultedAt (ldaxInstr p) s .memoryOutOfRange (some (indexAddr p s))) ∧
      exec (staxInstr p) s = .next (faultedAt (staxInstr p) s .memoryOutOfRange (some (indexAddr p s))))

/-- LHLD and SHLD (R107, R108), with a16 + 1 not wrapped, and XCHG (R109). Ground: LHLD and SHLD rest on decision D7 and the
durations on D18. -/
def Obligations.DirectPairLoadsAndExchange : Prop :=
  (∀ (v : Word) (s : State),
    encode (.lhld v) = [0x2A, lo v, hi v] ∧ encode (.shld v) = [0x22, lo v, hi v] ∧
    (v.toNat + 1 < s.params.memSize →
      exec (.lhld v) s = .next { s with
        l := readMem s.mem v.toNat, h := readMem s.mem (v.toNat + 1), pc := s.pc + 3, wait := 15 } ∧
      exec (.shld v) s = .next { s with
        mem := writeMem (writeMem s.mem v.toNat s.l) (v.toNat + 1) s.h, pc := s.pc + 3, wait := 15 }) ∧
    (s.params.memSize ≤ v.toNat →
      exec (.lhld v) s = .next (faultedAt (.lhld v) s .memoryOutOfRange (some v.toNat)) ∧
      exec (.shld v) s = .next (faultedAt (.shld v) s .memoryOutOfRange (some v.toNat))) ∧
    (v.toNat < s.params.memSize → s.params.memSize ≤ v.toNat + 1 →
      exec (.lhld v) s = .next (faultedAt (.lhld v) s .memoryOutOfRange (some (v.toNat + 1))) ∧
      exec (.shld v) s = .next (faultedAt (.shld v) s .memoryOutOfRange (some (v.toNat + 1))))) ∧
  ∀ s : State, encode .xchg = [0xEB] ∧
    exec .xchg s = .next { s with d := s.h, e := s.l, h := s.d, l := s.e, pc := s.pc + 1, wait := 3 }

/-! ### Arithmetic -/

/-- ADD, ADC, SUB, SBB and CMP of a register or M, 40 rows (R123 to R127). Ground: SBB and every AC rest on decisions D1 and D2.
-/
def Obligations.RegisterArithmetic : Prop :=
  ∀ (r : Reg8) (s : State),
    (∀ op, op = .add ∨ op = .adc ∨ op = .sub ∨ op = .sbb ∨ op = .cmp →
      encode (aluRegInstr op r) = [(0b10#2 ++ codeOfAluOp op ++ codeOfReg8 r : BitVec 8)] ∧
      (¬ operandOk r s →
        exec (aluRegInstr op r) s = .next (faultedAt (aluRegInstr op r) s .memoryOutOfRange (some (hlAddr s))))) ∧
    (operandOk r s →
      let v := operandValue r s
      let done := fun (x : Byte × Bool × Bool) (a : Byte) => Host.Outcome.next (φ := Fault) (ρ := Refusal)
        { s with a := a, f := arithFlags s.params.acMode x.1 x.2.1 x.2.2 s.f
                 pc := s.pc + 1, wait := if r = .m then 6 else 3 }
      exec (aluRegInstr .add r) s = done (add8 s.a v false) (add8 s.a v false).1 ∧
      exec (aluRegInstr .adc r) s = done (add8 s.a v (flagCY s.f)) (add8 s.a v (flagCY s.f)).1 ∧
      exec (aluRegInstr .sub r) s = done (sub8 s.a v false) (sub8 s.a v false).1 ∧
      exec (aluRegInstr .sbb r) s = done (sub8 s.a v (flagCY s.f)) (sub8 s.a v (flagCY s.f)).1 ∧
      exec (aluRegInstr .cmp r) s = done (sub8 s.a v false) s.a)

/-- ADI, ACI, SUI, SBI and CPI (R128 to R132). Ground: SBI and every AC rest on decisions D1 and D2. -/
def Obligations.ImmediateArithmetic : Prop :=
  ∀ (v : Byte) (s : State),
    let done := fun (x : Byte × Bool × Bool) (a : Byte) => Host.Outcome.next (φ := Fault) (ρ := Refusal)
      { s with a := a, f := arithFlags s.params.acMode x.1 x.2.1 x.2.2 s.f, pc := s.pc + 2, wait := 6 }
    encode (.adi v) = [0xC6, v] ∧ encode (.aci v) = [0xCE, v] ∧ encode (.sui v) = [0xD6, v] ∧
    encode (.sbi v) = [0xDE, v] ∧ encode (.cpi v) = [0xFE, v] ∧
    exec (.adi v) s = done (add8 s.a v false) (add8 s.a v false).1 ∧
    exec (.aci v) s = done (add8 s.a v (flagCY s.f)) (add8 s.a v (flagCY s.f)).1 ∧
    exec (.sui v) s = done (sub8 s.a v false) (sub8 s.a v false).1 ∧
    exec (.sbi v) s = done (sub8 s.a v (flagCY s.f)) (sub8 s.a v (flagCY s.f)).1 ∧
    exec (.cpi v) s = done (sub8 s.a v false) s.a

/-- INR and DCR of a register or M, 16 rows (R133, R134): the result, S, Z, P and AC; CY is kept. Ground: AC rests on decision D1
and the durations 5 and 10 on D18. -/
def Obligations.IncrementAndDecrement : Prop :=
  ∀ (r : Reg8) (s : State),
    encode (inrInstr r) = [(0b00#2 ++ codeOfReg8 r ++ 0b100#3 : BitVec 8)] ∧
    encode (dcrInstr r) = [(0b00#2 ++ codeOfReg8 r ++ 0b101#3 : BitVec 8)] ∧
    (operandOk r s →
      let up := add8 (operandValue r s) 1 false
      let down := sub8 (operandValue r s) 1 false
      let cycles := if r = .m then 9 else 4
      exec (inrInstr r) s = .next { setOperand r up.1 s with
        f := stepFlags s.params.acMode up.1 up.2.2 s.f, pc := s.pc + 1, wait := cycles } ∧
      exec (dcrInstr r) s = .next { setOperand r down.1 s with
        f := stepFlags s.params.acMode down.1 down.2.2 s.f, pc := s.pc + 1, wait := cycles }) ∧
    (¬ operandOk r s →
      exec (inrInstr r) s = .next (faultedAt (inrInstr r) s .memoryOutOfRange (some (hlAddr s))) ∧
      exec (dcrInstr r) s = .next (faultedAt (dcrInstr r) s .memoryOutOfRange (some (hlAddr s))))

/-- INX, DCX and DAD, 12 rows (R135 to R137): modulo 65536; INX and DCX write no flag, DAD writes CY only. Ground: INX and DCX
rest on decision D25 and the durations on D18. -/
def Obligations.PairArithmetic : Prop :=
  ∀ (p : Pair) (s : State),
    encode (inxInstr p) = [(0b00#2 ++ codeOfPair p ++ 0b0011#4 : BitVec 8)] ∧
    encode (dcxInstr p) = [(0b00#2 ++ codeOfPair p ++ 0b1011#4 : BitVec 8)] ∧
    encode (dadInstr p) = [(0b00#2 ++ codeOfPair p ++ 0b1001#4 : BitVec 8)] ∧
    exec (inxInstr p) s = .next { setrp16 p (BitVec.ofNat 16 ((rp16 p s).toNat + 1)) s with pc := s.pc + 1, wait := 4 } ∧
    exec (dcxInstr p) s = .next { setrp16 p (BitVec.ofNat 16 ((rp16 p s).toNat + 65535)) s with pc := s.pc + 1, wait := 4 } ∧
    exec (dadInstr p) s = .next { s with
      h := hi (rp16 .hl s + rp16 p s), l := lo (rp16 .hl s + rp16 p s)
      f := setCY (decide (65536 ≤ (rp16 .hl s).toNat + (rp16 p s).toNat)) s.f, pc := s.pc + 1, wait := 9 }

/-- DAA (R138): UndefinedOpcode when DAA_MODE = Fault; else the decimal adjust. Ground: it rests on decision D4; parameters R8
does not permit are log entry 21. -/
def Obligations.DecimalAdjust : Prop :=
  ∀ s : State, encode .daa = [0x27] ∧
    (s.params.daaMode = .fault → exec .daa s = .next (faultedAt .daa s .undefinedOpcode none)) ∧
    (s.params.daaMode = .execute →
      let low := 9 < s.a.toNat % 16 ∨ flagAC s.f = true
      let high := 9 < s.a.toNat / 16 ∨ flagCY s.f = true ∨ (9 ≤ s.a.toNat / 16 ∧ 9 < s.a.toNat % 16)
      ∃ corr t, exec .daa s = .next t ∧
        (low → high → corr = 0x66) ∧ (low → ¬ high → corr = 0x06) ∧ (¬ low → high → corr = 0x60) ∧
        (¬ low → ¬ high → corr = 0) ∧
        t.a.toNat = (s.a.toNat + corr) % 256 ∧
        (flagCY t.f = true ↔ high) ∧ (flagAC t.f = true ↔ 16 ≤ s.a.toNat % 16 + corr % 16) ∧
        flagS t.f = flagS (szp t.a s.f) ∧ flagZ t.f = flagZ (szp t.a s.f) ∧ flagP t.f = flagP (szp t.a s.f) ∧
        t.f &&& 0x2A = s.f &&& 0x2A ∧
        t = { s with a := t.a, f := t.f, pc := s.pc + 1, wait := 3 })

/-! ### Logic, rotates and carry -/

/-- ANA, XRA and ORA of a register or M, 24 rows (R151 to R153), and ANI, XRI, ORI (R154 to R156). -/
def Obligations.LogicalOperations : Prop :=
  (∀ (r : Reg8) (s : State),
    (∀ op, op = .ana ∨ op = .xra ∨ op = .ora →
      encode (aluRegInstr op r) = [(0b10#2 ++ codeOfAluOp op ++ codeOfReg8 r : BitVec 8)] ∧
      (¬ operandOk r s →
        exec (aluRegInstr op r) s = .next (faultedAt (aluRegInstr op r) s .memoryOutOfRange (some (hlAddr s))))) ∧
    (operandOk r s →
      let done := fun (x : Byte) => Host.Outcome.next (φ := Fault) (ρ := Refusal)
        { s with a := x, f := logicFlags x s.f, pc := s.pc + 1, wait := if r = .m then 6 else 3 }
      exec (aluRegInstr .ana r) s = done (s.a &&& operandValue r s) ∧
      exec (aluRegInstr .xra r) s = done (s.a ^^^ operandValue r s) ∧
      exec (aluRegInstr .ora r) s = done (s.a ||| operandValue r s))) ∧
  ∀ (v : Byte) (s : State),
    let done := fun (x : Byte) => Host.Outcome.next (φ := Fault) (ρ := Refusal)
      { s with a := x, f := logicFlags x s.f, pc := s.pc + 2, wait := 6 }
    encode (.ani v) = [0xE6, v] ∧ encode (.xri v) = [0xEE, v] ∧ encode (.ori v) = [0xF6, v] ∧
    exec (.ani v) s = done (s.a &&& v) ∧ exec (.xri v) s = done (s.a ^^^ v) ∧ exec (.ori v) s = done (s.a ||| v)

/-- RLC, RRC, RAL, RAR, STC, CMC and CMA (R157 to R163), the rotates as arithmetic on the byte. Ground: the duration 4 rests on
decision D18. -/
def Obligations.RotatesCarryAndComplement : Prop :=
  ∀ s : State,
    let done := fun (a : Nat) (f : Byte) => Host.Outcome.next (φ := Fault) (ρ := Refusal)
      { s with a := BitVec.ofNat 8 a, f := f, pc := s.pc + 1, wait := 3 }
    encode .rlc = [0x07] ∧ encode .rrc = [0x0F] ∧ encode .ral = [0x17] ∧ encode .rar = [0x1F] ∧
    encode .stc = [0x37] ∧ encode .cmc = [0x3F] ∧ encode .cma = [0x2F] ∧
    exec .rlc s = done (s.a.toNat * 2 % 256 + s.a.toNat / 128) (setCY (decide (128 ≤ s.a.toNat)) s.f) ∧
    exec .rrc s = done (s.a.toNat / 2 + 128 * (s.a.toNat % 2)) (setCY (decide (s.a.toNat % 2 = 1)) s.f) ∧
    exec .ral s = done (s.a.toNat * 2 % 256 + (flagCY s.f).toNat) (setCY (decide (128 ≤ s.a.toNat)) s.f) ∧
    exec .rar s = done (s.a.toNat / 2 + 128 * (flagCY s.f).toNat) (setCY (decide (s.a.toNat % 2 = 1)) s.f) ∧
    exec .stc s = done s.a.toNat (setCY true s.f) ∧
    exec .cmc s = done s.a.toNat (setCY (!flagCY s.f) s.f) ∧
    exec .cma s = done (255 - s.a.toNat) s.f

/-! ### Control flow -/

/-- JMP, *JMP and Jcc, 10 rows (R171, R172, R177): Jcc is Primary on both paths. Ground: the duration of JMP rests on decision
D18. -/
def Obligations.JumpsSetPc : Prop :=
  ∀ (v : Word) (s : State),
    encode (.jmp v) = [0xC3, lo v, hi v] ∧ encode (.jmpAlias v) = [0xCB, lo v, hi v] ∧
    (∀ i ∈ jmpInstrs v, exec i s = .next { s with pc := v, wait := 9 }) ∧
    ∀ k : Cond,
      encode (jccInstr k v) = [(0b11#2 ++ codeOfCond k ++ 0b010#3 : BitVec 8), lo v, hi v] ∧
      (condHolds k s.f = true → exec (jccInstr k v) s = .next { s with pc := v, wait := 9 }) ∧
      (condHolds k s.f = false → exec (jccInstr k v) s = .next { s with pc := s.pc + 3, wait := 9 })

/-- CALL, *CALL and Ccc, 12 rows (R173, R174, R178): the return address is the address after the operand; Ccc not taken returns
Alternate and touches neither SP nor memory. -/
def Obligations.CallsPushReturnAddress : Prop :=
  ∀ (v : Word) (s : State),
    encode (.call v) = [0xCD, lo v, hi v] ∧ encode (.callAliasDD v) = [0xDD, lo v, hi v] ∧
    encode (.callAliasED v) = [0xED, lo v, hi v] ∧ encode (.callAliasFD v) = [0xFD, lo v, hi v] ∧
    (∀ k : Cond,
      encode (cccInstr k v) = [(0b11#2 ++ codeOfCond k ++ 0b100#3 : BitVec 8), lo v, hi v] ∧
      (condHolds k s.f = false → exec (cccInstr k v) s = .next { s with pc := s.pc + 3, wait := 10 })) ∧
    ∀ i, i ∈ callInstrs v ∨ (∃ k, i = cccInstr k v ∧ condHolds k s.f = true) →
      (pushOk s → exec i s = .next { afterPush (s.pc + 3) s with pc := v, wait := 16 }) ∧
      (s.sp.toNat ≤ 1 → exec i s = .next (faultedAt i s .stackUnderflowProtection (some s.sp.toNat))) ∧
      (2 ≤ s.sp.toNat → s.params.memSize ≤ s.sp.toNat →
        exec i s = .next (faultedAt i s .memoryOutOfRange (some s.sp.toNat)))

/-- RET, *RET and Rcc, 10 rows (R175, R176, R179); Rcc not taken returns Alternate and leaves SP. Ground: the pop check rests on
decision D9. -/
def Obligations.ReturnsPopPc : Prop :=
  ∀ s : State,
    encode .ret = [0xC9] ∧ encode .retAlias = [0xD9] ∧
    (∀ k : Cond,
      encode (rccInstr k) = [(0b11#2 ++ codeOfCond k ++ 0b000#3 : BitVec 8)] ∧
      (condHolds k s.f = false → exec (rccInstr k) s = .next { s with pc := s.pc + 1, wait := 4 })) ∧
    ∀ i cycles, (i ∈ retInstrs ∧ cycles = 9) ∨ (∃ k, i = rccInstr k ∧ condHolds k s.f = true ∧ cycles = 10) →
      (popOk s → exec i s = .next { s with pc := stackTop s, sp := s.sp + 2, wait := cycles }) ∧
      (0xFFFE ≤ s.sp.toNat → exec i s = .next (faultedAt i s .stackPopOutOfRange (some s.sp.toNat))) ∧
      (s.sp.toNat < 0xFFFE → s.params.memSize ≤ s.sp.toNat + 2 →
        exec i s = .next (faultedAt i s .memoryOutOfRange (some (s.sp.toNat + 2))))

/-- PCHL and RST n, 9 rows (R180, R181), in both values of UNLISTED_OPS. Ground: it rests on decisions D3 and D23. -/
def Obligations.PchlAndRestart : Prop :=
  ∀ (n : Fin 8) (s : State),
    encode .pchl = [0xE9] ∧ encode (rstInstr n) = [(0b11#2 ++ BitVec.ofNat 3 n ++ 0b111#3 : BitVec 8)] ∧
    (s.params.unlistedOps = .fault →
      exec .pchl s = .next (faultedAt .pchl s .undefinedOpcode none) ∧
      exec (rstInstr n) s = .next (faultedAt (rstInstr n) s .undefinedOpcode none)) ∧
    (s.params.unlistedOps = .execute →
      exec .pchl s = .next { s with pc := rp16 .hl s, wait := 4 } ∧
      (pushOk s → exec (rstInstr n) s = .next { afterPush (s.pc + 1) s with pc := BitVec.ofNat 16 (8 * n), wait := 10 }) ∧
      (s.sp.toNat ≤ 1 →
        exec (rstInstr n) s = .next (faultedAt (rstInstr n) s .stackUnderflowProtection (some s.sp.toNat))) ∧
      (2 ≤ s.sp.toNat → s.params.memSize ≤ s.sp.toNat →
        exec (rstInstr n) s = .next (faultedAt (rstInstr n) s .memoryOutOfRange (some s.sp.toNat))))

/-! ### Stack, I/O and machine control -/

/-- PUSH and POP, 8 rows (R190, R191); pair 3 is the PSW. Ground: it rests on decisions D9, D18 and D20. -/
def Obligations.PushAndPopInstructions : Prop :=
  ∀ (p : StackPair) (s : State),
    encode (pushInstr p) = [(0b11#2 ++ codeOfStackPair p ++ 0b0101#4 : BitVec 8)] ∧
    encode (popInstr p) = [(0b11#2 ++ codeOfStackPair p ++ 0b0001#4 : BitVec 8)] ∧
    stackPairValue p s =
      (match p with | .bc => rp16 .bc s | .de => rp16 .de s | .hl => rp16 .hl s | .psw => joinBytes s.a s.f) ∧
    (pushOk s → exec (pushInstr p) s = .next { afterPush (stackPairValue p s) s with pc := s.pc + 1, wait := 10 }) ∧
    (s.sp.toNat ≤ 1 →
      exec (pushInstr p) s = .next (faultedAt (pushInstr p) s .stackUnderflowProtection (some s.sp.toNat))) ∧
    (2 ≤ s.sp.toNat → s.params.memSize ≤ s.sp.toNat →
      exec (pushInstr p) s = .next (faultedAt (pushInstr p) s .memoryOutOfRange (some s.sp.toNat))) ∧
    (popOk s →
      let t := { s with sp := s.sp + 2, pc := s.pc + 1, wait := 9 }
      exec (popInstr p) s = .next
        (match p with
          | .bc => { t with b := hi (stackTop s), c := lo (stackTop s) }
          | .de => { t with d := hi (stackTop s), e := lo (stackTop s) }
          | .hl => { t with h := hi (stackTop s), l := lo (stackTop s) }
          | .psw => { t with a := hi (stackTop s), f := normF (lo (stackTop s)) })) ∧
    (0xFFFE ≤ s.sp.toNat →
      exec (popInstr p) s = .next (faultedAt (popInstr p) s .stackPopOutOfRange (some s.sp.toNat))) ∧
    (s.sp.toNat < 0xFFFE → s.params.memSize ≤ s.sp.toNat + 2 →
      exec (popInstr p) s = .next (faultedAt (popInstr p) s .memoryOutOfRange (some (s.sp.toNat + 2))))

/-- XTHL and SPHL (R192, R193), in both values of UNLISTED_OPS. XTHL reads SP + 1 before SP + 2 (R218). Ground: it rests on
decisions D3, D12 and D22. -/
def Obligations.ExchangeTopAndLoadSp : Prop :=
  ∀ s : State,
    encode .xthl = [0xE3] ∧ encode .sphl = [0xF9] ∧
    (s.params.unlistedOps = .fault →
      exec .xthl s = .next (faultedAt .xthl s .undefinedOpcode none) ∧
      exec .sphl s = .next (faultedAt .sphl s .undefinedOpcode none)) ∧
    (s.params.unlistedOps = .execute →
      exec .sphl s = .next { s with sp := rp16 .hl s, pc := s.pc + 1, wait := 4 } ∧
      (popOk s → exec .xthl s = .next { s with
        l := readMem s.mem (s.sp.toNat + 1), h := readMem s.mem (s.sp.toNat + 2)
        mem := writeMem (writeMem s.mem (s.sp.toNat + 1) s.l) (s.sp.toNat + 2) s.h, pc := s.pc + 1, wait := 17 }) ∧
      (0xFFFE ≤ s.sp.toNat → exec .xthl s = .next (faultedAt .xthl s .stackPopOutOfRange (some s.sp.toNat))) ∧
      (s.sp.toNat < 0xFFFE → s.params.memSize ≤ s.sp.toNat + 1 →
        exec .xthl s = .next (faultedAt .xthl s .memoryOutOfRange (some (s.sp.toNat + 1)))) ∧
      (s.sp.toNat < 0xFFFE → s.params.memSize = s.sp.toNat + 2 →
        exec .xthl s = .next (faultedAt .xthl s .memoryOutOfRange (some (s.sp.toNat + 2)))))

/-- IN and OUT (R194, R195). The byte IN reads from an external collaborator is a free value: this holds whatever it is, and the
counter `ioReads`, which makes each draw a fresh one, is the model's (log entry 4). Ground: it rests on decision D5; the free
value is log entry 4, and the log in the minimal build is log entry 18. -/
def Obligations.InputAndOutput : Prop :=
  ∀ (p : Byte) (s : State),
    encode (.inp p) = [0xDB, p] ∧ encode (.outp p) = [0xD3, p] ∧
    (s.params.io = .minimal → exec (.inp p) s = .next { s with a := 0, pc := s.pc + 2, wait := 9 }) ∧
    (s.params.io = .external → exec (.inp p) s = .next { s with
      a := Config.ioIn s.ioReads p, ioReads := s.ioReads + 1, pc := s.pc + 2, wait := 9 }) ∧
    exec (.outp p) s = .next { s with ioLog := s.ioLog ++ [(p, s.a)], pc := s.pc + 2, wait := 9 }

/-- HLT, NOP and its seven aliases, EI and DI (R196 to R200). Ground: EI and DI rest on decisions D3 and D15 and their duration on
D18. -/
def Obligations.MachineControl : Prop :=
  ∀ s : State,
    encode .hlt = [0x76] ∧ encode .ei = [0xFB] ∧ encode .di = [0xF3] ∧
    nopInstrs.map encode = [[0x00], [0x08], [0x10], [0x18], [0x20], [0x28], [0x30], [0x38]] ∧
    exec .hlt s = .next { s with pc := s.pc + 1, run := .halted } ∧
    (∀ i ∈ nopInstrs, exec i s = .next { s with pc := s.pc + 1, wait := 3 }) ∧
    (s.params.unlistedOps = .execute →
      exec .ei s = .next { s with inte := true, pc := s.pc + 1, wait := 3 } ∧
      exec .di s = .next { s with inte := false, pc := s.pc + 1, wait := 3 }) ∧
    (s.params.unlistedOps = .fault →
      exec .ei s = .next (faultedAt .ei s .undefinedOpcode none) ∧
      exec .di s = .next (faultedAt .di s .undefinedOpcode none))

/-- Pairs of instructions that undo each other (95_test_vectors.md I4 to I6): CALL then RET, PUSH then POP, XCHG twice, CMA twice,
CMC twice, STC then CMC. Ground: the spec lists these as properties that follow from its rules. -/
def Obligations.InverseInstructions : Prop :=
  (∀ (v : Word) (s t u : State), Memory.wf s.mem = true → pushOk s → exec (.call v) s = .next t → exec .ret t = .next u →
    u.pc = s.pc + 3 ∧ u.sp = s.sp ∧ u.run = s.run) ∧
  (∀ (p : StackPair) (s t u : State), Memory.wf s.mem = true → s.flagsFixed → pushOk s →
    exec (pushInstr p) s = .next t → exec (popInstr p) t = .next u →
    u = { s with mem := t.mem, pc := s.pc + 2, wait := 9 }) ∧
  (∀ s t u : State, exec .xchg s = .next t → exec .xchg t = .next u → u = { s with pc := s.pc + 2, wait := 3 }) ∧
  (∀ s t u : State, exec .cma s = .next t → exec .cma t = .next u → u = { s with pc := s.pc + 2, wait := 3 }) ∧
  (∀ s t u : State, exec .cmc s = .next t → exec .cmc t = .next u → u = { s with pc := s.pc + 2, wait := 3 }) ∧
  (∀ s t u : State, exec .stc s = .next t → exec .cmc t = .next u → flagCY u.f = false)

/-! ### Faults -/

/-- UndefinedOpcode is raised exactly by an opcode without a meaning under the parameters (R85). Ground: it rests on decisions D3
and D4. -/
def Obligations.UndefinedOpcodeExactly : Prop :=
  ∀ (i : Instr) (s : State), s.run = .running →
    (raises i s .undefinedOpcode ↔
      (i = .daa ∧ s.params.daaMode = .fault) ∨ (i ∈ unlistedInstrs ∧ s.params.unlistedOps = .fault))

/-- Which instructions raise the two stack faults, and when (R214, R215): exactly a push with SP at most 1, and exactly a pop, or
XTHL, with SP at least 0xFFFE, by an instruction that has a meaning. Ground: the pop check rests on decisions D9 and D22. -/
def Obligations.StackFaultsExactly : Prop :=
  ∀ (i : Instr) (s : State), s.run = .running →
    (raises i s .stackUnderflowProtection ↔
      hasMeaning s.params i = true ∧ pushesNow i s ∧ s.sp.toNat ≤ 1) ∧
    (raises i s .stackPopOutOfRange ↔
      hasMeaning s.params i = true ∧ popsNow i s ∧ 0xFFFE ≤ s.sp.toNat)

/-- With the default MEM_SIZE a data access is out of range only for LHLD or SHLD at 0xFFFF, at the address 0x10000, and no
instruction raises PcOverflow after its fetch (R217). Ground: it rests on decisions D6 and D7. -/
def Obligations.DataAccessFaultsInFullMemory : Prop :=
  ∀ (i : Instr) (s : State), s.run = .running → s.params.memSize = 65536 →
    ¬ raises i s .pcOverflow ∧
    ∀ d, exec i s = .next (faultedAt i s .memoryOutOfRange d) →
      (i = .lhld 0xFFFF ∨ i = .shld 0xFFFF) ∧ d = some 0x10000

/-- Fetch faults (R216): byte k of the instruction at PC, when the bytes before it were fetched, faults with MemoryOutOfRange at
or above MEM_SIZE, and with PcOverflow at 0xFFFF; the record has no opcode when the opcode byte itself faults. Ground: it rests on
decisions D6, D8 and D12. -/
def Obligations.FetchFaults : Prop :=
  ∀ (s : State) (k : Nat), s.run = .running → s.wait = 0 →
    k < (rowOf (readMem s.mem s.pc.toNat)).len →
    (∀ j, j < k → s.pc.toNat + j < s.params.memSize ∧ s.pc.toNat + j < 0xFFFF) →
    let opcode := if k = 0 then none else some (readMem s.mem s.pc.toNat)
    (s.params.memSize ≤ s.pc.toNat + k →
      step s = .next (faultedWith s .memoryOutOfRange opcode (some (s.pc.toNat + k)))) ∧
    (s.pc.toNat + k < s.params.memSize → s.pc.toNat + k = 0xFFFF →
      step s = .next (faultedWith s .pcOverflow opcode (some 0xFFFF)))

/-- Faults are precise (R212): a step that ends in a fault leaves everything but `run` as it was, and the record is R212's: the
instruction's address, its opcode byte, or none when the opcode fetch itself faulted, and for each kind the code and the detail of
R211 with the cause R211 gives it. Ground: it rests on decisions D11, D16, D19 and, for the codes, D26; that a fault is a next state is
log entry 7, and that the code is computed from the kind is log entry 14. -/
def Obligations.FaultsArePrecise : Prop :=
  ∀ (s t : State) (rec : FaultRecord), s.run = .running → step s = .next t → t.run = .faulted rec →
    t = { s with run := .faulted rec } ∧ s.wait = 0 ∧ rec.pc = s.pc ∧
    rec.opcode =
      (if s.pc.toNat < s.params.memSize ∧ s.pc ≠ 0xFFFF then some (readMem s.mem s.pc.toNat) else none) ∧
    (match rec.kind with
      | .undefinedOpcode => codeOfFault .undefinedOpcode = 1 ∧ rec.detail = none ∧
          ∃ i, fetchInstr s = .ok i ∧ hasMeaning s.params i = false
      | .stackUnderflowProtection => codeOfFault .stackUnderflowProtection = 2 ∧ rec.detail = some s.sp.toNat ∧
          ∃ i, fetchInstr s = .ok i ∧ pushesNow i s ∧ s.sp.toNat ≤ 1
      | .stackPopOutOfRange => codeOfFault .stackPopOutOfRange = 3 ∧ rec.detail = some s.sp.toNat ∧
          ∃ i, fetchInstr s = .ok i ∧ popsNow i s ∧ 0xFFFE ≤ s.sp.toNat
      | .memoryOutOfRange => codeOfFault .memoryOutOfRange = 4 ∧
          ∃ a, rec.detail = some a ∧ s.params.memSize ≤ a
      | .pcOverflow => codeOfFault .pcOverflow = 5 ∧ rec.detail = some 0xFFFF ∧
          0xFFFF < s.pc.toNat + (rowOf (readMem s.mem s.pc.toNat)).len)

/-! ### Steps and timing -/

/-- No instruction is refused and none stops the machine: every one answers a next state at every state (R15). Ground: that a
fault is a next state is log entry 7. -/
def Obligations.EveryInstructionAnswersNext : Prop :=
  ∀ (i : Instr) (s : State), ∃ t, exec i s = .next t ∧ (t.run = s.run ∨ t.run = .halted ∨ ∃ rec, t.run = .faulted rec)

/-- A step runs the decoded instruction: when the bytes at PC lie in memory below 0xFFFF and decode to i, and no cycles are owed,
the step is the execution of i at that state. Ground: the two step relations are decision D24, and how they are divided is log
entry 9. -/
def Obligations.StepRunsDecodedInstruction : Prop :=
  ∀ (s : State) (i : Instr) (rest : List Byte), s.run = .running → s.wait = 0 →
    decode (bytesAt s.mem s.pc.toNat 3) = .ok (i, rest) →
    s.pc.toNat + lenOf i ≤ s.params.memSize → s.pc.toNat + lenOf i ≤ 0xFFFF →
    step s = exec i s

/-- The run-state machine (R232): a Running state steps; owed cycles keep it Running; it halts exactly on HLT; no step is defined
from Halted or Faulted. Ground: it rests on decision D16 and log entries 7 and 8. -/
def Obligations.RunStateMachine : Prop :=
  ∀ s : State,
    (s.run = .running → ∃ t, step s = .next t ∧
      (0 < s.wait → t = { s with wait := s.wait - 1 }) ∧
      (t.run = .halted ↔ s.wait = 0 ∧ fetchInstr s = .ok .hlt)) ∧
    (s.run = .halted → step s = .fault .noStepFromHalted) ∧
    (∀ rec, s.run = .faulted rec → step s = .fault (.noStepFromFaulted rec))

/-- An instruction occupies exactly dur calls of step(), or alt when it is a conditional call or return not taken (R252): the k-th
call leaves its end state with n - k cycles owed. HLT occupies one call. Ground: the spec marks R252 derived; that exec primes
wait is log entry 9. -/
def Obligations.InstructionOccupiesItsDuration : Prop :=
  ∀ (s t : State) (i : Instr), s.run = .running → s.wait = 0 → fetchInstr s = .ok i → exec i s = .next t →
    (t.run = .running → ∀ n, (notTaken i s → n = altOf i) → (¬ notTaken i s → n = durOf i) →
      ∀ k, 1 ≤ k → k ≤ n → Host.Core.run core k s = .next { t with wait := n - k }) ∧
    (t.run = .halted → i = .hlt ∧ Host.Core.run core 1 s = .next t ∧ t.wait = 0)

/-- No value depends on `wait` (R253) or on INTE (R40): an instruction run with other values of both gives the same outcome, those
two apart. Ground: it rests on decisions D15 and D24. -/
def Obligations.WaitAndInteAreNotRead : Prop :=
  ∀ (i : Instr) (s t : State) (w : Nat) (b : Bool), exec i s = .next t →
    ∃ u, exec i { s with wait := w, inte := b } = .next u ∧ { u with wait := t.wait, inte := t.inte } = t

/-- The durations of R256, row by row, and the alternates of R255. Ground: it rests on decisions D17 and D18. -/
def Obligations.DurationTable : Prop :=
  opcodeTable.length = 256 ∧
  opcodeTable.map Row.dur =
    [4, 10, 7, 5, 5, 5, 7, 4, 4, 10, 7, 5, 5, 5, 7, 4] ++ [4, 10, 7, 5, 5, 5, 7, 4, 4, 10, 7, 5, 5, 5, 7, 4] ++
    [4, 10, 16, 5, 5, 5, 7, 4, 4, 10, 16, 5, 5, 5, 7, 4] ++ [4, 10, 13, 5, 10, 10, 10, 4, 4, 10, 13, 5, 5, 5, 7, 4] ++
    [5, 5, 5, 5, 5, 5, 7, 5, 5, 5, 5, 5, 5, 5, 7, 5] ++ [5, 5, 5, 5, 5, 5, 7, 5, 5, 5, 5, 5, 5, 5, 7, 5] ++
    [5, 5, 5, 5, 5, 5, 7, 5, 5, 5, 5, 5, 5, 5, 7, 5] ++ [7, 7, 7, 7, 7, 7, 7, 7, 5, 5, 5, 5, 5, 5, 7, 5] ++
    [4, 4, 4, 4, 4, 4, 7, 4, 4, 4, 4, 4, 4, 4, 7, 4] ++ [4, 4, 4, 4, 4, 4, 7, 4, 4, 4, 4, 4, 4, 4, 7, 4] ++
    [4, 4, 4, 4, 4, 4, 7, 4, 4, 4, 4, 4, 4, 4, 7, 4] ++ [4, 4, 4, 4, 4, 4, 7, 4, 4, 4, 4, 4, 4, 4, 7, 4] ++
    [11, 10, 10, 10, 17, 11, 7, 11, 11, 10, 10, 10, 17, 17, 7, 11] ++
    [11, 10, 10, 10, 17, 11, 7, 11, 11, 10, 10, 10, 17, 17, 7, 11] ++
    [11, 10, 10, 18, 17, 11, 7, 11, 11, 5, 10, 4, 17, 17, 7, 11] ++
    [11, 10, 10, 4, 17, 11, 7, 11, 11, 5, 10, 4, 17, 17, 7, 11] ∧
  opcodeTable.map Row.alt =
    List.replicate 192 0 ++ (List.replicate 8 [5, 0, 10, 0, 11, 0, 0, 0]).flatten

/-! ### Encoding -/

/-- Decoding an encoded instruction gives it back and leaves the bytes that follow it, for all 256 instructions and every operand.
Ground: most of the opcode map is the spec's from general knowledge, log entry 15. -/
def Obligations.DecodeUndoesEncode : Prop :=
  ∀ (i : Instr) (rest : List Byte), i.wf = true → decode (encode i ++ rest) = .ok (i, rest)

/-- A decoded instruction encodes to the bytes it was read from (R92), and three bytes always hold an instruction (R83). Ground:
the spec marks R83 and R92 derived. -/
def Obligations.EncodeUndoesDecode : Prop :=
  (∀ (bs rest : List Byte) (i : Instr), decode bs = .ok (i, rest) → encode i ++ rest = bs) ∧
  ∀ (op b1 b2 : Byte) (rest : List Byte), ∃ i left, decode (op :: b1 :: b2 :: rest) = .ok (i, left) ∧ opcodeOf i = op

/-- The disassembler's round trip (R92): the bytes of the lines, in order, and of what is left over are the stream; with as many lines
as bytes, what is left over holds no complete instruction; and a stream of complete instructions is read back whole, with nothing left
over. Ground: the spec marks R92 derived. -/
def Obligations.DisassemblyRoundTrip : Prop :=
  (∀ (n : Nat) (bs : List Byte),
    ((disasmStream n bs).1.map encode).flatten ++ (disasmStream n bs).2 = bs ∧
    (bs.length ≤ n → ∃ e, decode (disasmStream n bs).2 = .error e)) ∧
  ∀ (n : Nat) (is : List Instr), is.length ≤ n → disasmStream n (is.map encode).flatten = (is, [])

/-- A few words written out from the encodings of R82 decode to the instructions they stand for. Ground: part of the opcode map is
the spec's from general knowledge, log entry 15. -/
def Obligations.SampleWordsDecode : Prop :=
  decodeTableWord 8 0b01000001 = some .movBC ∧ decodeTableWord 16 0b0100001000111110 = some (.mviA 0x42) ∧
  decodeTableWord 24 0b000100100011010000100001 = some (.lxiH 0x1234) ∧ decodeTableWord 8 0b10111001 = some .cmpC ∧
  decodeTableWord 8 0b00011111 = some .rar ∧ decodeTableWord 24 0b001100000000000011011100 = some (.cc 0x3000) ∧
  decodeTableWord 8 0b11110101 = some .pushPsw ∧ decodeTableWord 8 0b01110110 = some .hlt

/-! ### Invariants and frames -/

/-- Every step keeps the invariant: canonical memory below MEM_SIZE, F bits 1, 3, 5 fixed (R31), permitted parameters, no cycles
owed by a stopped core, INTE 0 where it does not exist. Ground: the form of the invariant is the model's, log entries 5, 12, 13
and 17. -/
def Obligations.StepKeepsInvariant : Prop :=
  ∀ s t : State, s.Inv → step s = .next t → t.Inv

/-- What an instruction leaves unchanged of the registers: all but those its rule writes; SP only where R36 says. Ground: the
lists are read off the instruction rules and R36. -/
def Obligations.RegisterFrame : Prop :=
  ∀ (i : Instr) (s t : State), exec i s = .next t → ∀ r, r ∉ regsWritten i → regValue r t = regValue r s

/-- What an instruction leaves unchanged of F: every flag but those the summary table of 10_state.md gives it, and bits 1, 3, 5
but for POP PSW, which forces them. Ground: the spec marks the summary table derived. -/
def Obligations.FlagFrame : Prop :=
  ∀ (i : Instr) (s t : State), exec i s = .next t →
    (∀ n, n ∉ flagsWritten i → flagValue n t.f = flagValue n s.f) ∧
    (i ≠ .popPsw → t.f &&& 0x2A = s.f &&& 0x2A) ∧ (flagsWritten i = [] → t.f = s.f)

/-- What an instruction leaves unchanged of memory: every byte but those it stores to, whose addresses are computed on the state
before it (R51, R54, R64); an instruction that stores nothing changes no byte. Ground: the spec marks R54 and R64 derived. -/
def Obligations.MemoryFrame : Prop :=
  ∀ (i : Instr) (s t : State), exec i s = .next t →
    ∀ a, a ∉ storeAddrs i s → readMem t.mem a = readMem s.mem a

/-- What a step leaves unchanged of the rest: the parameters always (R20); INTE but for EI and DI (R40); io_log but for OUT, which
appends one entry; the draws counter but for IN. Ground: it rests on decision D15 and, for the parameters and the counter, log
entries 1 and 4. -/
def Obligations.SystemFrame : Prop :=
  (∀ s t : State, step s = .next t → t.params = s.params) ∧
  ∀ (i : Instr) (s t : State), exec i s = .next t →
    t.params = s.params ∧
    (i ≠ .ei → i ≠ .di → t.inte = s.inte) ∧
    ((∀ p, i ≠ .outp p) → t.ioLog = s.ioLog) ∧
    ((∀ p, i ≠ .inp p) → t.ioReads = s.ioReads)
end

