-- ==== Sys2Proof/Laws/Flags.lean ====
section
/-! SUPPORT. What each flag write does to each flag and to the fixed bits of F (10_state.md R30, R31). -/

namespace Sys2Proof.Machine

theorem getLsbD_setBit (i : Nat) (v : Bool) (f : Byte) (j : Nat) (hi : i < 8) (hj : j < 8) :
    (setBit i v f).getLsbD j = if j = i then v else f.getLsbD j := by
  unfold setBit
  cases v <;> by_cases h : j = i <;> simp [h, hi, hj]

@[simp] theorem flagS_setBit (i : Nat) (v : Bool) (f : Byte) (hi : i < 8) :
    flagS (setBit i v f) = if 7 = i then v else flagS f := getLsbD_setBit i v f 7 hi (by omega)
@[simp] theorem flagZ_setBit (i : Nat) (v : Bool) (f : Byte) (hi : i < 8) :
    flagZ (setBit i v f) = if 6 = i then v else flagZ f := getLsbD_setBit i v f 6 hi (by omega)
@[simp] theorem flagAC_setBit (i : Nat) (v : Bool) (f : Byte) (hi : i < 8) :
    flagAC (setBit i v f) = if 4 = i then v else flagAC f := getLsbD_setBit i v f 4 hi (by omega)
@[simp] theorem flagP_setBit (i : Nat) (v : Bool) (f : Byte) (hi : i < 8) :
    flagP (setBit i v f) = if 2 = i then v else flagP f := getLsbD_setBit i v f 2 hi (by omega)
@[simp] theorem flagCY_setBit (i : Nat) (v : Bool) (f : Byte) (hi : i < 8) :
    flagCY (setBit i v f) = if 0 = i then v else flagCY f := getLsbD_setBit i v f 0 hi (by omega)

/-- Two flag bytes are equal when they agree on every bit. -/
theorem byte_ext {f g : Byte} (h : ∀ j, j < 8 → f.getLsbD j = g.getLsbD j) : f = g :=
  BitVec.eq_of_getLsbD_eq h

/-- A write of bit 7, 6, 4, 2 or 0 leaves bits 1, 3 and 5. -/
theorem setBit_fixed (i : Nat) (v : Bool) (f : Byte) (hi : i = 7 ∨ i = 6 ∨ i = 4 ∨ i = 2 ∨ i = 0) :
    setBit i v f &&& 0x2A#8 = f &&& 0x2A#8 := by
  apply byte_ext
  intro j hj
  rw [BitVec.getLsbD_and, BitVec.getLsbD_and, getLsbD_setBit i v f j (by omega) hj]
  by_cases h : j = i
  · subst h
    rcases hi with rfl | rfl | rfl | rfl | rfl <;> simp
  · rw [if_neg h]

@[simp] theorem setS_fixed (v : Bool) (f : Byte) : setS v f &&& 0x2A#8 = f &&& 0x2A#8 := setBit_fixed 7 v f (by simp)
@[simp] theorem setZ_fixed (v : Bool) (f : Byte) : setZ v f &&& 0x2A#8 = f &&& 0x2A#8 := setBit_fixed 6 v f (by simp)
@[simp] theorem setAC_fixed (v : Bool) (f : Byte) : setAC v f &&& 0x2A#8 = f &&& 0x2A#8 := setBit_fixed 4 v f (by simp)
@[simp] theorem setP_fixed (v : Bool) (f : Byte) : setP v f &&& 0x2A#8 = f &&& 0x2A#8 := setBit_fixed 2 v f (by simp)
@[simp] theorem setCY_fixed (v : Bool) (f : Byte) : setCY v f &&& 0x2A#8 = f &&& 0x2A#8 := setBit_fixed 0 v f (by simp)

@[simp] theorem szp_fixed (r f : Byte) : szp r f &&& 0x2A#8 = f &&& 0x2A#8 := by simp [szp]
@[simp] theorem arithFlags_fixed (mode : AcMode) (r : Byte) (cy ac : Bool) (f : Byte) :
    arithFlags mode r cy ac f &&& 0x2A#8 = f &&& 0x2A#8 := by simp [arithFlags]
@[simp] theorem stepFlags_fixed (mode : AcMode) (r : Byte) (ac : Bool) (f : Byte) :
    stepFlags mode r ac f &&& 0x2A#8 = f &&& 0x2A#8 := by simp [stepFlags]
@[simp] theorem logicFlags_fixed (r f : Byte) : logicFlags r f &&& 0x2A#8 = f &&& 0x2A#8 := by simp [logicFlags]

/-- `norm` forces bits 1, 3, 5 to 1, 0, 0 (10_state.md R31). -/
@[simp] theorem normF_fixed (x : Byte) : normF x &&& 0x2A#8 = 0x02#8 := by
  apply byte_ext
  intro j hj
  have : j = 0 ∨ j = 1 ∨ j = 2 ∨ j = 3 ∨ j = 4 ∨ j = 5 ∨ j = 6 ∨ j = 7 := by omega
  rcases this with rfl | rfl | rfl | rfl | rfl | rfl | rfl | rfl <;> simp [normF]

/-- A decided flag of a write is read through the writes: the simp set that reduces every flag of every update. -/
theorem flagValue_setBit (n : FlagName) (i : Nat) (v : Bool) (f : Byte) (hi : i < 8) :
    flagValue n (setBit i v f) =
      if i = (match n with | .s => 7 | .z => 6 | .ac => 4 | .p => 2 | .cy => 0) then v else flagValue n f := by
  cases n <;> simp [flagValue, hi, eq_comm]

end Sys2Proof.Machine
end

