-- ==== Sys2Proof/Laws/Body.lean ====
section
/-! SUPPORT. The body each instruction's meaning runs: `exec i` is `runInstr i (bodyOf i)`, so a law of `runInstr` and a law of a
body give a law of the instruction. -/

namespace Sys2Proof.Machine

/-- The body of an instruction's meaning. -/
def bodyOf : Instr → Body
  | .nop => noOp
  | .lxiB v => lxi .bc v
  | .staxB => stax .bc
  | .inxB => inx .bc
  | .inrB => inr .b
  | .dcrB => dcr .b
  | .mviB v => mvi .b v
  | .rlc => rlc
  | .nopAlias08 => noOp
  | .dadB => dad .bc
  | .ldaxB => ldax .bc
  | .dcxB => dcx .bc
  | .inrC => inr .c
  | .dcrC => dcr .c
  | .mviC v => mvi .c v
  | .rrc => rrc
  | .nopAlias10 => noOp
  | .lxiD v => lxi .de v
  | .staxD => stax .de
  | .inxD => inx .de
  | .inrD => inr .d
  | .dcrD => dcr .d
  | .mviD v => mvi .d v
  | .ral => ral
  | .nopAlias18 => noOp
  | .dadD => dad .de
  | .ldaxD => ldax .de
  | .dcxD => dcx .de
  | .inrE => inr .e
  | .dcrE => dcr .e
  | .mviE v => mvi .e v
  | .rar => rar
  | .nopAlias20 => noOp
  | .lxiH v => lxi .hl v
  | .shld v => shld v
  | .inxH => inx .hl
  | .inrH => inr .h
  | .dcrH => dcr .h
  | .mviH v => mvi .h v
  | .daa => daa
  | .nopAlias28 => noOp
  | .dadH => dad .hl
  | .lhld v => lhld v
  | .dcxH => dcx .hl
  | .inrL => inr .l
  | .dcrL => dcr .l
  | .mviL v => mvi .l v
  | .cma => cma
  | .nopAlias30 => noOp
  | .lxiSp v => lxi .sp v
  | .sta v => sta v
  | .inxSp => inx .sp
  | .inrM => inr .m
  | .dcrM => dcr .m
  | .mviM v => mvi .m v
  | .stc => stc
  | .nopAlias38 => noOp
  | .dadSp => dad .sp
  | .lda v => lda v
  | .dcxSp => dcx .sp
  | .inrA => inr .a
  | .dcrA => dcr .a
  | .mviA v => mvi .a v
  | .cmc => cmc
  | .movBB => mov .b .b
  | .movBC => mov .b .c
  | .movBD => mov .b .d
  | .movBE => mov .b .e
  | .movBH => mov .b .h
  | .movBL => mov .b .l
  | .movBM => mov .b .m
  | .movBA => mov .b .a
  | .movCB => mov .c .b
  | .movCC => mov .c .c
  | .movCD => mov .c .d
  | .movCE => mov .c .e
  | .movCH => mov .c .h
  | .movCL => mov .c .l
  | .movCM => mov .c .m
  | .movCA => mov .c .a
  | .movDB => mov .d .b
  | .movDC => mov .d .c
  | .movDD => mov .d .d
  | .movDE => mov .d .e
  | .movDH => mov .d .h
  | .movDL => mov .d .l
  | .movDM => mov .d .m
  | .movDA => mov .d .a
  | .movEB => mov .e .b
  | .movEC => mov .e .c
  | .movED => mov .e .d
  | .movEE => mov .e .e
  | .movEH => mov .e .h
  | .movEL => mov .e .l
  | .movEM => mov .e .m
  | .movEA => mov .e .a
  | .movHB => mov .h .b
  | .movHC => mov .h .c
  | .movHD => mov .h .d
  | .movHE => mov .h .e
  | .movHH => mov .h .h
  | .movHL => mov .h .l
  | .movHM => mov .h .m
  | .movHA => mov .h .a
  | .movLB => mov .l .b
  | .movLC => mov .l .c
  | .movLD => mov .l .d
  | .movLE => mov .l .e
  | .movLH => mov .l .h
  | .movLL => mov .l .l
  | .movLM => mov .l .m
  | .movLA => mov .l .a
  | .movMB => mov .m .b
  | .movMC => mov .m .c
  | .movMD => mov .m .d
  | .movME => mov .m .e
  | .movMH => mov .m .h
  | .movML => mov .m .l
  | .hlt => halt
  | .movMA => mov .m .a
  | .movAB => mov .a .b
  | .movAC => mov .a .c
  | .movAD => mov .a .d
  | .movAE => mov .a .e
  | .movAH => mov .a .h
  | .movAL => mov .a .l
  | .movAM => mov .a .m
  | .movAA => mov .a .a
  | .addB => addReg .b
  | .addC => addReg .c
  | .addD => addReg .d
  | .addE => addReg .e
  | .addH => addReg .h
  | .addL => addReg .l
  | .addM => addReg .m
  | .addA => addReg .a
  | .adcB => adcReg .b
  | .adcC => adcReg .c
  | .adcD => adcReg .d
  | .adcE => adcReg .e
  | .adcH => adcReg .h
  | .adcL => adcReg .l
  | .adcM => adcReg .m
  | .adcA => adcReg .a
  | .subB => subReg .b
  | .subC => subReg .c
  | .subD => subReg .d
  | .subE => subReg .e
  | .subH => subReg .h
  | .subL => subReg .l
  | .subM => subReg .m
  | .subA => subReg .a
  | .sbbB => sbbReg .b
  | .sbbC => sbbReg .c
  | .sbbD => sbbReg .d
  | .sbbE => sbbReg .e
  | .sbbH => sbbReg .h
  | .sbbL => sbbReg .l
  | .sbbM => sbbReg .m
  | .sbbA => sbbReg .a
  | .anaB => anaReg .b
  | .anaC => anaReg .c
  | .anaD => anaReg .d
  | .anaE => anaReg .e
  | .anaH => anaReg .h
  | .anaL => anaReg .l
  | .anaM => anaReg .m
  | .anaA => anaReg .a
  | .xraB => xraReg .b
  | .xraC => xraReg .c
  | .xraD => xraReg .d
  | .xraE => xraReg .e
  | .xraH => xraReg .h
  | .xraL => xraReg .l
  | .xraM => xraReg .m
  | .xraA => xraReg .a
  | .oraB => oraReg .b
  | .oraC => oraReg .c
  | .oraD => oraReg .d
  | .oraE => oraReg .e
  | .oraH => oraReg .h
  | .oraL => oraReg .l
  | .oraM => oraReg .m
  | .oraA => oraReg .a
  | .cmpB => cmpReg .b
  | .cmpC => cmpReg .c
  | .cmpD => cmpReg .d
  | .cmpE => cmpReg .e
  | .cmpH => cmpReg .h
  | .cmpL => cmpReg .l
  | .cmpM => cmpReg .m
  | .cmpA => cmpReg .a
  | .rnz => retIf .nz
  | .popB => pop .bc
  | .jnz v => jumpIf .nz v
  | .jmp v => jump v
  | .cnz v => callIf .nz v
  | .pushB => push .bc
  | .adi v => addImm v
  | .rst0 => rst 0
  | .rz => retIf .z
  | .ret => ret
  | .jz v => jumpIf .z v
  | .jmpAlias v => jump v
  | .cz v => callIf .z v
  | .call v => call v
  | .aci v => adcImm v
  | .rst1 => rst 1
  | .rnc => retIf .nc
  | .popD => pop .de
  | .jnc v => jumpIf .nc v
  | .outp v => output v
  | .cnc v => callIf .nc v
  | .pushD => push .de
  | .sui v => subImm v
  | .rst2 => rst 2
  | .rc => retIf .c
  | .retAlias => ret
  | .jc v => jumpIf .c v
  | .inp v => input v
  | .cc v => callIf .c v
  | .callAliasDD v => call v
  | .sbi v => sbbImm v
  | .rst3 => rst 3
  | .rpo => retIf .po
  | .popH => pop .hl
  | .jpo v => jumpIf .po v
  | .xthl => xthl
  | .cpo v => callIf .po v
  | .pushH => push .hl
  | .ani v => anaImm v
  | .rst4 => rst 4
  | .rpe => retIf .pe
  | .pchl => pchl
  | .jpe v => jumpIf .pe v
  | .xchg => xchg
  | .cpe v => callIf .pe v
  | .callAliasED v => call v
  | .xri v => xraImm v
  | .rst5 => rst 5
  | .rp => retIf .p
  | .popPsw => pop .psw
  | .jp v => jumpIf .p v
  | .di => disableInt
  | .cp v => callIf .p v
  | .pushPsw => push .psw
  | .ori v => oraImm v
  | .rst6 => rst 6
  | .rm => retIf .m
  | .sphl => sphl
  | .jm v => jumpIf .m v
  | .ei => enableInt
  | .cm v => callIf .m v
  | .callAliasFD v => call v
  | .cpi v => cmpImm v
  | .rst7 => rst 7

/-- Every meaning is its body run by `runInstr`. -/
theorem exec_eq_runInstr (i : Instr) (s : State) : exec i s = runInstr i (bodyOf i) s := by
  cases i <;> rfl

/-- A body that answers: the instruction completes. -/
theorem runInstr_ok {i : Instr} {body : Body} {s t : State} {r : HandlerResult} (hm : hasMeaning s.params i = true)
    (hb : body (advancePc (lenOf i) s) = .ok (t, r)) :
    runInstr i body s = .next (retire i r t) := by
  simp only [runInstr, hm, hb, if_true]

/-- A body that raises: the fault is taken at the state before the step. -/
theorem runInstr_error {i : Instr} {body : Body} {s : State} {x : Raise} (hm : hasMeaning s.params i = true)
    (hb : body (advancePc (lenOf i) s) = .error x) :
    runInstr i body s = .next (takeFault (some (opcodeOf i)) x s) := by
  simp only [runInstr, hm, hb, if_true]

/-- An instruction without a meaning: UndefinedOpcode. -/
theorem runInstr_undefined {i : Instr} {body : Body} {s : State} (hm : hasMeaning s.params i = false) :
    runInstr i body s = .next (takeFault (some (opcodeOf i)) { kind := .undefinedOpcode, detail := none } s) := by
  simp [runInstr, hm]

/-- An instruction that has a meaning and whose body answers. -/
theorem exec_ok {i : Instr} {s t : State} {r : HandlerResult} (hm : hasMeaning s.params i = true)
    (hb : bodyOf i (advancePc (lenOf i) s) = .ok (t, r)) : exec i s = .next (retire i r t) := by
  rw [exec_eq_runInstr, runInstr_ok hm hb]

/-- An instruction that has a meaning and whose body raises. -/
theorem exec_error {i : Instr} {s : State} {x : Raise} (hm : hasMeaning s.params i = true)
    (hb : bodyOf i (advancePc (lenOf i) s) = .error x) : exec i s = .next (takeFault (some (opcodeOf i)) x s) := by
  rw [exec_eq_runInstr, runInstr_error hm hb]

/-- An instruction without a meaning. -/
theorem exec_undefined {i : Instr} {s : State} (hm : hasMeaning s.params i = false) :
    exec i s = .next (takeFault (some (opcodeOf i)) { kind := .undefinedOpcode, detail := none } s) := by
  rw [exec_eq_runInstr, runInstr_undefined hm]

/-- Everything `runInstr` can do: complete, take its body's fault, or take UndefinedOpcode. -/
theorem runInstr_cases {i : Instr} {body : Body} {s u : State} (h : runInstr i body s = .next u) :
    (hasMeaning s.params i = true ∧ ∃ t r, body (advancePc (lenOf i) s) = .ok (t, r) ∧
      u = retire i r t) ∨
    (hasMeaning s.params i = true ∧ ∃ x, body (advancePc (lenOf i) s) = .error x ∧
      u = takeFault (some (opcodeOf i)) x s) ∨
    (hasMeaning s.params i = false ∧
      u = takeFault (some (opcodeOf i)) { kind := .undefinedOpcode, detail := none } s) := by
  unfold runInstr at h
  split at h
  · rename_i hm
    split at h
    · rename_i t r hb; cases h; exact .inl ⟨hm, t, r, hb, rfl⟩
    · rename_i x hb; cases h; exact .inr (.inl ⟨hm, x, hb, rfl⟩)
  · rename_i hm; cases h; exact .inr (.inr ⟨by simpa using hm, rfl⟩)

end Sys2Proof.Machine
end

