-- ==== Sys2Proof/Laws/Memory.lean ====
section
/-! SUPPORT. The laws of the memory image: read after write, the canonical form and the bound kept by every operation. -/

namespace Sys2Proof.Machine

@[simp] theorem readMem_nil (a : Nat) : readMem [] a = unlistedByte := rfl

theorem readMem_cons (k : Nat) (w : Byte) (m : Memory) (a : Nat) :
    readMem ((k, w) :: m) a = if k = a then w else readMem m a := rfl

/-- An address below every listed one is unlisted. -/
theorem readMem_below {lo a : Nat} {m : Memory} (h : wfFrom lo m = true) (ha : a < lo) :
    readMem m a = unlistedByte := by
  induction m generalizing lo with
  | nil => rfl
  | cons c m ih =>
    obtain ⟨k, w⟩ := c
    simp only [wfFrom, Bool.and_eq_true, decide_eq_true_eq] at h
    rw [readMem_cons, if_neg (by omega)]
    exact ih h.2 (by omega)

theorem wfFrom_mono {lo lo' : Nat} {m : Memory} (h : wfFrom lo m = true) (hl : lo' ≤ lo) : wfFrom lo' m = true := by
  cases m with
  | nil => rfl
  | cons c m =>
    obtain ⟨k, w⟩ := c
    simp only [wfFrom, Bool.and_eq_true, decide_eq_true_eq] at h ⊢
    exact ⟨⟨by omega, h.1.2⟩, h.2⟩

theorem readMem_writeMem_same_from {lo : Nat} {m : Memory} (h : wfFrom lo m = true) (a : Nat) (v : Byte) :
    readMem (writeMem m a v) a = v := by
  induction m generalizing lo with
  | nil => by_cases hv : v = unlistedByte <;> simp [writeMem, readMem, hv]
  | cons c m ih =>
    obtain ⟨k, w⟩ := c
    simp only [wfFrom, Bool.and_eq_true, decide_eq_true_eq] at h
    have below : a ≤ k → readMem m a = unlistedByte := fun hak => readMem_below h.2 (by omega)
    unfold writeMem
    split
    · rename_i hlt
      split
      · rename_i hv; rw [readMem_cons, if_neg (by omega), below (by omega), hv]
      · rw [readMem_cons, if_pos rfl]
    · split
      · rename_i heq
        split
        · rename_i hv; rw [below (by omega), hv]
        · rw [readMem_cons, if_pos rfl]
      · rw [readMem_cons, if_neg (by omega)]; exact ih h.2

/-- A read at the address just written gives the value written. -/
theorem readMem_writeMem_same {m : Memory} (h : Memory.wf m = true) (a : Nat) (v : Byte) :
    readMem (writeMem m a v) a = v := readMem_writeMem_same_from h a v

/-- A read at any other address gives what it gave before. -/
theorem readMem_writeMem_other (m : Memory) {a b : Nat} (v : Byte) (hb : b ≠ a) :
    readMem (writeMem m a v) b = readMem m b := by
  induction m with
  | nil => by_cases hv : v = unlistedByte <;> simp [writeMem, readMem, hv, Ne.symm hb]
  | cons c m ih =>
    obtain ⟨k, w⟩ := c
    unfold writeMem
    repeat' split
    all_goals simp only [readMem_cons]
    · rw [if_neg (Ne.symm hb)]
    · rename_i h _; rw [if_neg (show k ≠ b by omega)]
    · rename_i h _; rw [if_neg (Ne.symm hb), if_neg (show k ≠ b by omega)]
    · rw [ih]

theorem wfFrom_writeMem {lo : Nat} {m : Memory} (h : wfFrom lo m = true) {a : Nat} (ha : lo ≤ a) (v : Byte) :
    wfFrom lo (writeMem m a v) = true := by
  induction m generalizing lo with
  | nil => by_cases hv : v = unlistedByte <;> simp [writeMem, wfFrom, hv, ha]
  | cons c m ih =>
    obtain ⟨k, w⟩ := c
    simp only [wfFrom, Bool.and_eq_true, decide_eq_true_eq] at h
    obtain ⟨⟨hk, hw⟩, hm⟩ := h
    unfold writeMem
    repeat' split
    · simp [wfFrom, hk, hw, hm]
    · rename_i hlt hv; simp [wfFrom, ha, hv, hw, hm]; omega
    · exact wfFrom_mono hm (by omega)
    · rename_i h1 h2 hv; subst h2; simp [wfFrom, hk, hv, hm]
    · simp [wfFrom, hk, hw]; exact ih hm (by omega)

/-- A write keeps the canonical form. -/
theorem writeMem_wf {m : Memory} (h : Memory.wf m = true) (a : Nat) (v : Byte) : Memory.wf (writeMem m a v) = true :=
  wfFrom_writeMem h (Nat.zero_le a) v

@[simp] theorem boundedBy_nil (n : Nat) : boundedBy n [] = true := rfl

@[simp] theorem boundedBy_cons (n k : Nat) (w : Byte) (m : Memory) :
    boundedBy n ((k, w) :: m) = (decide (k < n) && boundedBy n m) := rfl

/-- A write below the bound keeps every listed address below it. -/
theorem writeMem_bounded {n : Nat} {m : Memory} (h : boundedBy n m = true) {a : Nat} (ha : a < n) (v : Byte) :
    boundedBy n (writeMem m a v) = true := by
  induction m with
  | nil => by_cases hv : v = unlistedByte <;> simp [writeMem, hv, ha]
  | cons c m ih =>
    obtain ⟨k, w⟩ := c
    simp only [boundedBy_cons, Bool.and_eq_true, decide_eq_true_eq] at h
    unfold writeMem
    repeat' split
    all_goals simp [h.1, h.2, ha, ih h.2]

theorem writeBytes_wf {m : Memory} (h : Memory.wf m = true) (a : Nat) (vs : List Byte) :
    Memory.wf (writeBytes m a vs) = true := by
  induction vs generalizing m a with
  | nil => exact h
  | cons v vs ih => exact ih (writeMem_wf h a v) (a + 1)

theorem writeBytes_bounded {n : Nat} {m : Memory} (h : boundedBy n m = true) {a : Nat} {vs : List Byte}
    (ha : a + vs.length ≤ n) : boundedBy n (writeBytes m a vs) = true := by
  induction vs generalizing m a with
  | nil => exact h
  | cons v vs ih =>
    simp only [List.length_cons] at ha
    exact ih (writeMem_bounded h (by omega) v) (by omega)

theorem writeCells_wf {m : Memory} (h : Memory.wf m = true) (cs : List Host.Cell) :
    Memory.wf (writeCells m cs) = true := by
  induction cs generalizing m with
  | nil => exact h
  | cons c cs ih => exact ih (writeMem_wf h c.1 c.2)

theorem writeCells_bounded {n : Nat} {m : Memory} (h : boundedBy n m = true) {cs : List Host.Cell}
    (hc : ∀ c ∈ cs, c.1 < n) : boundedBy n (writeCells m cs) = true := by
  induction cs generalizing m with
  | nil => exact h
  | cons c cs ih =>
    exact ih (writeMem_bounded h (hc c List.mem_cons_self) c.2) fun d hd => hc d (List.mem_cons_of_mem _ hd)

/-- A read below the bytes written from `a` upward, or at or above their end, gives what it gave before. -/
theorem readMem_writeBytes_other (m : Memory) {a b : Nat} (vs : List Byte) (hb : b < a ∨ a + vs.length ≤ b) :
    readMem (writeBytes m a vs) b = readMem m b := by
  induction vs generalizing m a with
  | nil => rfl
  | cons v vs ih =>
    simp only [List.length_cons] at hb
    rw [writeBytes, ih _ (by omega), readMem_writeMem_other _ _ (by omega)]

@[simp] theorem Memory.wf_nil : Memory.wf [] = true := rfl

end Sys2Proof.Machine
end

