-- ==== Sys2Proof/Laws/State.lean ====
section
/-! SUPPORT. One lemma per field per named update of the state, so that no proof unfolds an update. -/

namespace Sys2Proof.Machine

/-! `advancePc` -/

@[simp] theorem advancePc_a (n : Nat) (s : State) : (advancePc n s).a = s.a := rfl
@[simp] theorem advancePc_b (n : Nat) (s : State) : (advancePc n s).b = s.b := rfl
@[simp] theorem advancePc_c (n : Nat) (s : State) : (advancePc n s).c = s.c := rfl
@[simp] theorem advancePc_d (n : Nat) (s : State) : (advancePc n s).d = s.d := rfl
@[simp] theorem advancePc_e (n : Nat) (s : State) : (advancePc n s).e = s.e := rfl
@[simp] theorem advancePc_h (n : Nat) (s : State) : (advancePc n s).h = s.h := rfl
@[simp] theorem advancePc_l (n : Nat) (s : State) : (advancePc n s).l = s.l := rfl
@[simp] theorem advancePc_f (n : Nat) (s : State) : (advancePc n s).f = s.f := rfl
@[simp] theorem advancePc_pc (n : Nat) (s : State) : (advancePc n s).pc = s.pc + BitVec.ofNat 16 n := rfl
@[simp] theorem advancePc_sp (n : Nat) (s : State) : (advancePc n s).sp = s.sp := rfl
@[simp] theorem advancePc_mem (n : Nat) (s : State) : (advancePc n s).mem = s.mem := rfl
@[simp] theorem advancePc_run (n : Nat) (s : State) : (advancePc n s).run = s.run := rfl
@[simp] theorem advancePc_wait (n : Nat) (s : State) : (advancePc n s).wait = s.wait := rfl
@[simp] theorem advancePc_inte (n : Nat) (s : State) : (advancePc n s).inte = s.inte := rfl
@[simp] theorem advancePc_ioLog (n : Nat) (s : State) : (advancePc n s).ioLog = s.ioLog := rfl
@[simp] theorem advancePc_ioReads (n : Nat) (s : State) : (advancePc n s).ioReads = s.ioReads := rfl
@[simp] theorem advancePc_params (n : Nat) (s : State) : (advancePc n s).params = s.params := rfl

/-! `takeFault` -/

@[simp] theorem takeFault_a (op : Option Byte) (x : Raise) (s : State) : (takeFault op x s).a = s.a := rfl
@[simp] theorem takeFault_b (op : Option Byte) (x : Raise) (s : State) : (takeFault op x s).b = s.b := rfl
@[simp] theorem takeFault_c (op : Option Byte) (x : Raise) (s : State) : (takeFault op x s).c = s.c := rfl
@[simp] theorem takeFault_d (op : Option Byte) (x : Raise) (s : State) : (takeFault op x s).d = s.d := rfl
@[simp] theorem takeFault_e (op : Option Byte) (x : Raise) (s : State) : (takeFault op x s).e = s.e := rfl
@[simp] theorem takeFault_h (op : Option Byte) (x : Raise) (s : State) : (takeFault op x s).h = s.h := rfl
@[simp] theorem takeFault_l (op : Option Byte) (x : Raise) (s : State) : (takeFault op x s).l = s.l := rfl
@[simp] theorem takeFault_f (op : Option Byte) (x : Raise) (s : State) : (takeFault op x s).f = s.f := rfl
@[simp] theorem takeFault_pc (op : Option Byte) (x : Raise) (s : State) : (takeFault op x s).pc = s.pc := rfl
@[simp] theorem takeFault_sp (op : Option Byte) (x : Raise) (s : State) : (takeFault op x s).sp = s.sp := rfl
@[simp] theorem takeFault_mem (op : Option Byte) (x : Raise) (s : State) : (takeFault op x s).mem = s.mem := rfl
@[simp] theorem takeFault_run (op : Option Byte) (x : Raise) (s : State) : (takeFault op x s).run = .faulted { kind := x.kind, pc := s.pc, opcode := op, detail := x.detail } := rfl
@[simp] theorem takeFault_wait (op : Option Byte) (x : Raise) (s : State) : (takeFault op x s).wait = s.wait := rfl
@[simp] theorem takeFault_inte (op : Option Byte) (x : Raise) (s : State) : (takeFault op x s).inte = s.inte := rfl
@[simp] theorem takeFault_ioLog (op : Option Byte) (x : Raise) (s : State) : (takeFault op x s).ioLog = s.ioLog := rfl
@[simp] theorem takeFault_ioReads (op : Option Byte) (x : Raise) (s : State) : (takeFault op x s).ioReads = s.ioReads := rfl
@[simp] theorem takeFault_params (op : Option Byte) (x : Raise) (s : State) : (takeFault op x s).params = s.params := rfl

/-! `faultedWith` -/

@[simp] theorem faultedWith_a (s : State) (k : FaultKind) (op : Option Byte) (d : Option Nat) : (faultedWith s k op d).a = s.a := rfl
@[simp] theorem faultedWith_b (s : State) (k : FaultKind) (op : Option Byte) (d : Option Nat) : (faultedWith s k op d).b = s.b := rfl
@[simp] theorem faultedWith_c (s : State) (k : FaultKind) (op : Option Byte) (d : Option Nat) : (faultedWith s k op d).c = s.c := rfl
@[simp] theorem faultedWith_d (s : State) (k : FaultKind) (op : Option Byte) (d : Option Nat) : (faultedWith s k op d).d = s.d := rfl
@[simp] theorem faultedWith_e (s : State) (k : FaultKind) (op : Option Byte) (d : Option Nat) : (faultedWith s k op d).e = s.e := rfl
@[simp] theorem faultedWith_h (s : State) (k : FaultKind) (op : Option Byte) (d : Option Nat) : (faultedWith s k op d).h = s.h := rfl
@[simp] theorem faultedWith_l (s : State) (k : FaultKind) (op : Option Byte) (d : Option Nat) : (faultedWith s k op d).l = s.l := rfl
@[simp] theorem faultedWith_f (s : State) (k : FaultKind) (op : Option Byte) (d : Option Nat) : (faultedWith s k op d).f = s.f := rfl
@[simp] theorem faultedWith_pc (s : State) (k : FaultKind) (op : Option Byte) (d : Option Nat) : (faultedWith s k op d).pc = s.pc := rfl
@[simp] theorem faultedWith_sp (s : State) (k : FaultKind) (op : Option Byte) (d : Option Nat) : (faultedWith s k op d).sp = s.sp := rfl
@[simp] theorem faultedWith_mem (s : State) (k : FaultKind) (op : Option Byte) (d : Option Nat) : (faultedWith s k op d).mem = s.mem := rfl
@[simp] theorem faultedWith_run (s : State) (k : FaultKind) (op : Option Byte) (d : Option Nat) : (faultedWith s k op d).run = .faulted { kind := k, pc := s.pc, opcode := op, detail := d } := rfl
@[simp] theorem faultedWith_wait (s : State) (k : FaultKind) (op : Option Byte) (d : Option Nat) : (faultedWith s k op d).wait = s.wait := rfl
@[simp] theorem faultedWith_inte (s : State) (k : FaultKind) (op : Option Byte) (d : Option Nat) : (faultedWith s k op d).inte = s.inte := rfl
@[simp] theorem faultedWith_ioLog (s : State) (k : FaultKind) (op : Option Byte) (d : Option Nat) : (faultedWith s k op d).ioLog = s.ioLog := rfl
@[simp] theorem faultedWith_ioReads (s : State) (k : FaultKind) (op : Option Byte) (d : Option Nat) : (faultedWith s k op d).ioReads = s.ioReads := rfl
@[simp] theorem faultedWith_params (s : State) (k : FaultKind) (op : Option Byte) (d : Option Nat) : (faultedWith s k op d).params = s.params := rfl

/-! `faultedAt` -/

@[simp] theorem faultedAt_a (i : Instr) (s : State) (k : FaultKind) (d : Option Nat) : (faultedAt i s k d).a = s.a := rfl
@[simp] theorem faultedAt_b (i : Instr) (s : State) (k : FaultKind) (d : Option Nat) : (faultedAt i s k d).b = s.b := rfl
@[simp] theorem faultedAt_c (i : Instr) (s : State) (k : FaultKind) (d : Option Nat) : (faultedAt i s k d).c = s.c := rfl
@[simp] theorem faultedAt_d (i : Instr) (s : State) (k : FaultKind) (d : Option Nat) : (faultedAt i s k d).d = s.d := rfl
@[simp] theorem faultedAt_e (i : Instr) (s : State) (k : FaultKind) (d : Option Nat) : (faultedAt i s k d).e = s.e := rfl
@[simp] theorem faultedAt_h (i : Instr) (s : State) (k : FaultKind) (d : Option Nat) : (faultedAt i s k d).h = s.h := rfl
@[simp] theorem faultedAt_l (i : Instr) (s : State) (k : FaultKind) (d : Option Nat) : (faultedAt i s k d).l = s.l := rfl
@[simp] theorem faultedAt_f (i : Instr) (s : State) (k : FaultKind) (d : Option Nat) : (faultedAt i s k d).f = s.f := rfl
@[simp] theorem faultedAt_pc (i : Instr) (s : State) (k : FaultKind) (d : Option Nat) : (faultedAt i s k d).pc = s.pc := rfl
@[simp] theorem faultedAt_sp (i : Instr) (s : State) (k : FaultKind) (d : Option Nat) : (faultedAt i s k d).sp = s.sp := rfl
@[simp] theorem faultedAt_mem (i : Instr) (s : State) (k : FaultKind) (d : Option Nat) : (faultedAt i s k d).mem = s.mem := rfl
@[simp] theorem faultedAt_run (i : Instr) (s : State) (k : FaultKind) (d : Option Nat) : (faultedAt i s k d).run = .faulted { kind := k, pc := s.pc, opcode := some (opcodeOf i), detail := d } := rfl
@[simp] theorem faultedAt_wait (i : Instr) (s : State) (k : FaultKind) (d : Option Nat) : (faultedAt i s k d).wait = s.wait := rfl
@[simp] theorem faultedAt_inte (i : Instr) (s : State) (k : FaultKind) (d : Option Nat) : (faultedAt i s k d).inte = s.inte := rfl
@[simp] theorem faultedAt_ioLog (i : Instr) (s : State) (k : FaultKind) (d : Option Nat) : (faultedAt i s k d).ioLog = s.ioLog := rfl
@[simp] theorem faultedAt_ioReads (i : Instr) (s : State) (k : FaultKind) (d : Option Nat) : (faultedAt i s k d).ioReads = s.ioReads := rfl
@[simp] theorem faultedAt_params (i : Instr) (s : State) (k : FaultKind) (d : Option Nat) : (faultedAt i s k d).params = s.params := rfl

/-! `setpsw16` -/

@[simp] theorem setpsw16_a (v : Word) (s : State) : (setpsw16 v s).a = hi v := rfl
@[simp] theorem setpsw16_b (v : Word) (s : State) : (setpsw16 v s).b = s.b := rfl
@[simp] theorem setpsw16_c (v : Word) (s : State) : (setpsw16 v s).c = s.c := rfl
@[simp] theorem setpsw16_d (v : Word) (s : State) : (setpsw16 v s).d = s.d := rfl
@[simp] theorem setpsw16_e (v : Word) (s : State) : (setpsw16 v s).e = s.e := rfl
@[simp] theorem setpsw16_h (v : Word) (s : State) : (setpsw16 v s).h = s.h := rfl
@[simp] theorem setpsw16_l (v : Word) (s : State) : (setpsw16 v s).l = s.l := rfl
@[simp] theorem setpsw16_f (v : Word) (s : State) : (setpsw16 v s).f = normF (lo v) := rfl
@[simp] theorem setpsw16_pc (v : Word) (s : State) : (setpsw16 v s).pc = s.pc := rfl
@[simp] theorem setpsw16_sp (v : Word) (s : State) : (setpsw16 v s).sp = s.sp := rfl
@[simp] theorem setpsw16_mem (v : Word) (s : State) : (setpsw16 v s).mem = s.mem := rfl
@[simp] theorem setpsw16_run (v : Word) (s : State) : (setpsw16 v s).run = s.run := rfl
@[simp] theorem setpsw16_wait (v : Word) (s : State) : (setpsw16 v s).wait = s.wait := rfl
@[simp] theorem setpsw16_inte (v : Word) (s : State) : (setpsw16 v s).inte = s.inte := rfl
@[simp] theorem setpsw16_ioLog (v : Word) (s : State) : (setpsw16 v s).ioLog = s.ioLog := rfl
@[simp] theorem setpsw16_ioReads (v : Word) (s : State) : (setpsw16 v s).ioReads = s.ioReads := rfl
@[simp] theorem setpsw16_params (v : Word) (s : State) : (setpsw16 v s).params = s.params := rfl

/-! `afterPush` -/

@[simp] theorem afterPush_a (v : Word) (s : State) : (afterPush v s).a = s.a := rfl
@[simp] theorem afterPush_b (v : Word) (s : State) : (afterPush v s).b = s.b := rfl
@[simp] theorem afterPush_c (v : Word) (s : State) : (afterPush v s).c = s.c := rfl
@[simp] theorem afterPush_d (v : Word) (s : State) : (afterPush v s).d = s.d := rfl
@[simp] theorem afterPush_e (v : Word) (s : State) : (afterPush v s).e = s.e := rfl
@[simp] theorem afterPush_h (v : Word) (s : State) : (afterPush v s).h = s.h := rfl
@[simp] theorem afterPush_l (v : Word) (s : State) : (afterPush v s).l = s.l := rfl
@[simp] theorem afterPush_f (v : Word) (s : State) : (afterPush v s).f = s.f := rfl
@[simp] theorem afterPush_pc (v : Word) (s : State) : (afterPush v s).pc = s.pc := rfl
@[simp] theorem afterPush_sp (v : Word) (s : State) : (afterPush v s).sp = s.sp - 2 := rfl
@[simp] theorem afterPush_mem (v : Word) (s : State) : (afterPush v s).mem = writeMem (writeMem s.mem s.sp.toNat (hi v)) (s.sp.toNat - 1) (lo v) := rfl
@[simp] theorem afterPush_run (v : Word) (s : State) : (afterPush v s).run = s.run := rfl
@[simp] theorem afterPush_wait (v : Word) (s : State) : (afterPush v s).wait = s.wait := rfl
@[simp] theorem afterPush_inte (v : Word) (s : State) : (afterPush v s).inte = s.inte := rfl
@[simp] theorem afterPush_ioLog (v : Word) (s : State) : (afterPush v s).ioLog = s.ioLog := rfl
@[simp] theorem afterPush_ioReads (v : Word) (s : State) : (afterPush v s).ioReads = s.ioReads := rfl
@[simp] theorem afterPush_params (v : Word) (s : State) : (afterPush v s).params = s.params := rfl

/-! `putResult` -/

@[simp] theorem putResult_a (x : Byte × Bool × Bool) (s : State) : (putResult x s).a = x.1 := rfl
@[simp] theorem putResult_b (x : Byte × Bool × Bool) (s : State) : (putResult x s).b = s.b := rfl
@[simp] theorem putResult_c (x : Byte × Bool × Bool) (s : State) : (putResult x s).c = s.c := rfl
@[simp] theorem putResult_d (x : Byte × Bool × Bool) (s : State) : (putResult x s).d = s.d := rfl
@[simp] theorem putResult_e (x : Byte × Bool × Bool) (s : State) : (putResult x s).e = s.e := rfl
@[simp] theorem putResult_h (x : Byte × Bool × Bool) (s : State) : (putResult x s).h = s.h := rfl
@[simp] theorem putResult_l (x : Byte × Bool × Bool) (s : State) : (putResult x s).l = s.l := rfl
@[simp] theorem putResult_f (x : Byte × Bool × Bool) (s : State) : (putResult x s).f = arithFlags s.params.acMode x.1 x.2.1 x.2.2 s.f := rfl
@[simp] theorem putResult_pc (x : Byte × Bool × Bool) (s : State) : (putResult x s).pc = s.pc := rfl
@[simp] theorem putResult_sp (x : Byte × Bool × Bool) (s : State) : (putResult x s).sp = s.sp := rfl
@[simp] theorem putResult_mem (x : Byte × Bool × Bool) (s : State) : (putResult x s).mem = s.mem := rfl
@[simp] theorem putResult_run (x : Byte × Bool × Bool) (s : State) : (putResult x s).run = s.run := rfl
@[simp] theorem putResult_wait (x : Byte × Bool × Bool) (s : State) : (putResult x s).wait = s.wait := rfl
@[simp] theorem putResult_inte (x : Byte × Bool × Bool) (s : State) : (putResult x s).inte = s.inte := rfl
@[simp] theorem putResult_ioLog (x : Byte × Bool × Bool) (s : State) : (putResult x s).ioLog = s.ioLog := rfl
@[simp] theorem putResult_ioReads (x : Byte × Bool × Bool) (s : State) : (putResult x s).ioReads = s.ioReads := rfl
@[simp] theorem putResult_params (x : Byte × Bool × Bool) (s : State) : (putResult x s).params = s.params := rfl

/-! `putFlags` -/

@[simp] theorem putFlags_a (x : Byte × Bool × Bool) (s : State) : (putFlags x s).a = s.a := rfl
@[simp] theorem putFlags_b (x : Byte × Bool × Bool) (s : State) : (putFlags x s).b = s.b := rfl
@[simp] theorem putFlags_c (x : Byte × Bool × Bool) (s : State) : (putFlags x s).c = s.c := rfl
@[simp] theorem putFlags_d (x : Byte × Bool × Bool) (s : State) : (putFlags x s).d = s.d := rfl
@[simp] theorem putFlags_e (x : Byte × Bool × Bool) (s : State) : (putFlags x s).e = s.e := rfl
@[simp] theorem putFlags_h (x : Byte × Bool × Bool) (s : State) : (putFlags x s).h = s.h := rfl
@[simp] theorem putFlags_l (x : Byte × Bool × Bool) (s : State) : (putFlags x s).l = s.l := rfl
@[simp] theorem putFlags_f (x : Byte × Bool × Bool) (s : State) : (putFlags x s).f = arithFlags s.params.acMode x.1 x.2.1 x.2.2 s.f := rfl
@[simp] theorem putFlags_pc (x : Byte × Bool × Bool) (s : State) : (putFlags x s).pc = s.pc := rfl
@[simp] theorem putFlags_sp (x : Byte × Bool × Bool) (s : State) : (putFlags x s).sp = s.sp := rfl
@[simp] theorem putFlags_mem (x : Byte × Bool × Bool) (s : State) : (putFlags x s).mem = s.mem := rfl
@[simp] theorem putFlags_run (x : Byte × Bool × Bool) (s : State) : (putFlags x s).run = s.run := rfl
@[simp] theorem putFlags_wait (x : Byte × Bool × Bool) (s : State) : (putFlags x s).wait = s.wait := rfl
@[simp] theorem putFlags_inte (x : Byte × Bool × Bool) (s : State) : (putFlags x s).inte = s.inte := rfl
@[simp] theorem putFlags_ioLog (x : Byte × Bool × Bool) (s : State) : (putFlags x s).ioLog = s.ioLog := rfl
@[simp] theorem putFlags_ioReads (x : Byte × Bool × Bool) (s : State) : (putFlags x s).ioReads = s.ioReads := rfl
@[simp] theorem putFlags_params (x : Byte × Bool × Bool) (s : State) : (putFlags x s).params = s.params := rfl

/-! `retire` -/

@[simp] theorem retire_a (i : Instr) (r : HandlerResult) (s : State) : (retire i r s).a = s.a := by cases r <;> rfl
@[simp] theorem retire_b (i : Instr) (r : HandlerResult) (s : State) : (retire i r s).b = s.b := by cases r <;> rfl
@[simp] theorem retire_c (i : Instr) (r : HandlerResult) (s : State) : (retire i r s).c = s.c := by cases r <;> rfl
@[simp] theorem retire_d (i : Instr) (r : HandlerResult) (s : State) : (retire i r s).d = s.d := by cases r <;> rfl
@[simp] theorem retire_e (i : Instr) (r : HandlerResult) (s : State) : (retire i r s).e = s.e := by cases r <;> rfl
@[simp] theorem retire_h (i : Instr) (r : HandlerResult) (s : State) : (retire i r s).h = s.h := by cases r <;> rfl
@[simp] theorem retire_l (i : Instr) (r : HandlerResult) (s : State) : (retire i r s).l = s.l := by cases r <;> rfl
@[simp] theorem retire_f (i : Instr) (r : HandlerResult) (s : State) : (retire i r s).f = s.f := by cases r <;> rfl
@[simp] theorem retire_pc (i : Instr) (r : HandlerResult) (s : State) : (retire i r s).pc = s.pc := by cases r <;> rfl
@[simp] theorem retire_sp (i : Instr) (r : HandlerResult) (s : State) : (retire i r s).sp = s.sp := by cases r <;> rfl
@[simp] theorem retire_mem (i : Instr) (r : HandlerResult) (s : State) : (retire i r s).mem = s.mem := by cases r <;> rfl
@[simp] theorem retire_inte (i : Instr) (r : HandlerResult) (s : State) : (retire i r s).inte = s.inte := by cases r <;> rfl
@[simp] theorem retire_ioLog (i : Instr) (r : HandlerResult) (s : State) : (retire i r s).ioLog = s.ioLog := by cases r <;> rfl
@[simp] theorem retire_ioReads (i : Instr) (r : HandlerResult) (s : State) : (retire i r s).ioReads = s.ioReads := by cases r <;> rfl
@[simp] theorem retire_params (i : Instr) (r : HandlerResult) (s : State) : (retire i r s).params = s.params := by cases r <;> rfl

@[simp] theorem retire_primary_wait (i : Instr) (s : State) : (retire i .primary s).wait = durOf i - 1 := rfl
@[simp] theorem retire_alternate_wait (i : Instr) (s : State) : (retire i .alternate s).wait = altOf i - 1 := rfl
@[simp] theorem retire_halt_wait (i : Instr) (s : State) : (retire i .halt s).wait = s.wait := rfl
@[simp] theorem retire_primary_run (i : Instr) (s : State) : (retire i .primary s).run = s.run := rfl
@[simp] theorem retire_alternate_run (i : Instr) (s : State) : (retire i .alternate s).run = s.run := rfl
@[simp] theorem retire_halt_run (i : Instr) (s : State) : (retire i .halt s).run = .halted := rfl

/-! `setrp16`: what no pair write touches -/

@[simp] theorem setrp16_a (p : Pair) (v : Word) (s : State) : (setrp16 p v s).a = s.a := by cases p <;> rfl
@[simp] theorem setrp16_f (p : Pair) (v : Word) (s : State) : (setrp16 p v s).f = s.f := by cases p <;> rfl
@[simp] theorem setrp16_pc (p : Pair) (v : Word) (s : State) : (setrp16 p v s).pc = s.pc := by cases p <;> rfl
@[simp] theorem setrp16_mem (p : Pair) (v : Word) (s : State) : (setrp16 p v s).mem = s.mem := by cases p <;> rfl
@[simp] theorem setrp16_run (p : Pair) (v : Word) (s : State) : (setrp16 p v s).run = s.run := by cases p <;> rfl
@[simp] theorem setrp16_wait (p : Pair) (v : Word) (s : State) : (setrp16 p v s).wait = s.wait := by cases p <;> rfl
@[simp] theorem setrp16_inte (p : Pair) (v : Word) (s : State) : (setrp16 p v s).inte = s.inte := by cases p <;> rfl
@[simp] theorem setrp16_ioLog (p : Pair) (v : Word) (s : State) : (setrp16 p v s).ioLog = s.ioLog := by cases p <;> rfl
@[simp] theorem setrp16_ioReads (p : Pair) (v : Word) (s : State) : (setrp16 p v s).ioReads = s.ioReads := by cases p <;> rfl
@[simp] theorem setrp16_params (p : Pair) (v : Word) (s : State) : (setrp16 p v s).params = s.params := by cases p <;> rfl

/-! `setStackPair`: what no POP touches beside SP -/

@[simp] theorem setStackPair_pc (p : StackPair) (v : Word) (s : State) : (setStackPair p v s).pc = s.pc := by cases p <;> rfl
@[simp] theorem setStackPair_sp (p : StackPair) (v : Word) (s : State) : (setStackPair p v s).sp = s.sp := by cases p <;> rfl
@[simp] theorem setStackPair_mem (p : StackPair) (v : Word) (s : State) : (setStackPair p v s).mem = s.mem := by cases p <;> rfl
@[simp] theorem setStackPair_run (p : StackPair) (v : Word) (s : State) : (setStackPair p v s).run = s.run := by cases p <;> rfl
@[simp] theorem setStackPair_wait (p : StackPair) (v : Word) (s : State) : (setStackPair p v s).wait = s.wait := by cases p <;> rfl
@[simp] theorem setStackPair_inte (p : StackPair) (v : Word) (s : State) : (setStackPair p v s).inte = s.inte := by cases p <;> rfl
@[simp] theorem setStackPair_ioLog (p : StackPair) (v : Word) (s : State) : (setStackPair p v s).ioLog = s.ioLog := by cases p <;> rfl
@[simp] theorem setStackPair_ioReads (p : StackPair) (v : Word) (s : State) : (setStackPair p v s).ioReads = s.ioReads := by cases p <;> rfl
@[simp] theorem setStackPair_params (p : StackPair) (v : Word) (s : State) : (setStackPair p v s).params = s.params := by cases p <;> rfl

/-! `setOperand`: what no register operand touches -/

@[simp] theorem setOperand_f (r : Reg8) (v : Byte) (s : State) : (setOperand r v s).f = s.f := by cases r <;> rfl
@[simp] theorem setOperand_pc (r : Reg8) (v : Byte) (s : State) : (setOperand r v s).pc = s.pc := by cases r <;> rfl
@[simp] theorem setOperand_sp (r : Reg8) (v : Byte) (s : State) : (setOperand r v s).sp = s.sp := by cases r <;> rfl
@[simp] theorem setOperand_run (r : Reg8) (v : Byte) (s : State) : (setOperand r v s).run = s.run := by cases r <;> rfl
@[simp] theorem setOperand_wait (r : Reg8) (v : Byte) (s : State) : (setOperand r v s).wait = s.wait := by cases r <;> rfl
@[simp] theorem setOperand_inte (r : Reg8) (v : Byte) (s : State) : (setOperand r v s).inte = s.inte := by cases r <;> rfl
@[simp] theorem setOperand_ioLog (r : Reg8) (v : Byte) (s : State) : (setOperand r v s).ioLog = s.ioLog := by cases r <;> rfl
@[simp] theorem setOperand_ioReads (r : Reg8) (v : Byte) (s : State) : (setOperand r v s).ioReads = s.ioReads := by cases r <;> rfl
@[simp] theorem setOperand_params (r : Reg8) (v : Byte) (s : State) : (setOperand r v s).params = s.params := by cases r <;> rfl

end Sys2Proof.Machine
end

