-- ==== Sys2Proof/Laws/Ops.lean ====
section
/-! SUPPORT. One lemma per shared operation: everything it can do. -/

namespace Sys2Proof.Machine

theorem memRead_ok {a : Nat} {s : State} (h : a < s.params.memSize) : memRead a s = .ok (readMem s.mem a) := by
  simp [memRead, h]

theorem memRead_error {a : Nat} {s : State} (h : s.params.memSize ≤ a) :
    memRead a s = .error { kind := .memoryOutOfRange, detail := some a } := by
  simp [memRead, Nat.not_lt.mpr h]

theorem memWrite_ok {a : Nat} {v : Byte} {s : State} (h : a < s.params.memSize) :
    memWrite a v s = .ok { s with mem := writeMem s.mem a v } := by
  simp [memWrite, h]

theorem memWrite_error {a : Nat} {v : Byte} {s : State} (h : s.params.memSize ≤ a) :
    memWrite a v s = .error { kind := .memoryOutOfRange, detail := some a } := by
  simp [memWrite, Nat.not_lt.mpr h]

/-! ### Bytes and words -/

@[simp] theorem joinBytes_hi_lo (v : Word) : joinBytes (hi v) (lo v) = v := by
  apply BitVec.eq_of_toNat_eq; simp [joinBytes, hi, lo]; omega

@[simp] theorem hi_joinBytes (h l : Byte) : hi (joinBytes h l) = h := by
  apply BitVec.eq_of_toNat_eq; simp [joinBytes, hi]; omega

@[simp] theorem lo_joinBytes (h l : Byte) : lo (joinBytes h l) = l := by
  apply BitVec.eq_of_toNat_eq; simp [joinBytes, lo]; omega

/-! ### What `advancePc` leaves as it was -/

@[simp] theorem hlAddr_advancePc (n : Nat) (s : State) : hlAddr (advancePc n s) = hlAddr s := rfl
@[simp] theorem indexAddr_advancePc (p : IndexPair) (n : Nat) (s : State) :
    indexAddr p (advancePc n s) = indexAddr p s := by cases p <;> rfl
@[simp] theorem rp16_advancePc (p : Pair) (n : Nat) (s : State) : rp16 p (advancePc n s) = rp16 p s := by cases p <;> rfl
@[simp] theorem stackPairValue_advancePc (p : StackPair) (n : Nat) (s : State) :
    stackPairValue p (advancePc n s) = stackPairValue p s := by cases p <;> rfl
@[simp] theorem operandOk_advancePc (r : Reg8) (n : Nat) (s : State) :
    operandOk r (advancePc n s) ↔ operandOk r s := Iff.rfl
@[simp] theorem operandValue_advancePc (r : Reg8) (n : Nat) (s : State) :
    operandValue r (advancePc n s) = operandValue r s := by cases r <;> rfl
@[simp] theorem pushOk_advancePc (n : Nat) (s : State) : pushOk (advancePc n s) ↔ pushOk s := Iff.rfl
@[simp] theorem popOk_advancePc (n : Nat) (s : State) : popOk (advancePc n s) ↔ popOk s := Iff.rfl
@[simp] theorem stackTop_advancePc (n : Nat) (s : State) : stackTop (advancePc n s) = stackTop s := rfl

/-! ### Memory access -/

/-- Everything `memRead` can do. -/
theorem memRead_cases {a : Nat} {s : State} {x : Except Raise Byte} (h : memRead a s = x) :
    (a < s.params.memSize ∧ x = .ok (readMem s.mem a)) ∨
    (s.params.memSize ≤ a ∧ x = .error { kind := .memoryOutOfRange, detail := some a }) := by
  subst h
  rcases Nat.lt_or_ge a s.params.memSize with h | h
  · exact .inl ⟨h, memRead_ok h⟩
  · exact .inr ⟨h, memRead_error h⟩

/-- Everything `memWrite` can do. -/
theorem memWrite_cases {a : Nat} {v : Byte} {s : State} {x : Except Raise State} (h : memWrite a v s = x) :
    (a < s.params.memSize ∧ x = .ok { s with mem := writeMem s.mem a v }) ∨
    (s.params.memSize ≤ a ∧ x = .error { kind := .memoryOutOfRange, detail := some a }) := by
  subst h
  rcases Nat.lt_or_ge a s.params.memSize with h | h
  · exact .inl ⟨h, memWrite_ok h⟩
  · exact .inr ⟨h, memWrite_error h⟩

/-- Everything a register read can do. -/
theorem r8_eq (r : Reg8) (s : State) :
    r8 r s = if r = .m ∧ s.params.memSize ≤ hlAddr s then .error { kind := .memoryOutOfRange, detail := some (hlAddr s) }
      else .ok (operandValue r s) := by
  cases r <;> simp [r8, operandValue]
  split
  · rename_i h; exact memRead_error h
  · rename_i h; exact memRead_ok (by omega)

/-- Everything a register write can do. -/
theorem w8_eq (r : Reg8) (v : Byte) (s : State) :
    w8 r v s = if r = .m ∧ s.params.memSize ≤ hlAddr s then .error { kind := .memoryOutOfRange, detail := some (hlAddr s) }
      else .ok (setOperand r v s) := by
  cases r <;> simp [w8, setOperand]
  split
  · rename_i h; exact memWrite_error h
  · rename_i h; exact memWrite_ok (by omega)

/-- Only M can name a byte that does not exist. -/
theorem not_operandOk {r : Reg8} {s : State} : ¬ operandOk r s ↔ r = .m ∧ s.params.memSize ≤ hlAddr s := by
  simp [operandOk]

theorem r8_ok {r : Reg8} {s : State} (h : operandOk r s) : r8 r s = .ok (operandValue r s) := by
  rw [r8_eq, if_neg fun hr => not_operandOk.2 hr h]

theorem r8_error {r : Reg8} {s : State} (h : ¬ operandOk r s) :
    r8 r s = .error { kind := .memoryOutOfRange, detail := some (hlAddr s) } := by
  rw [r8_eq, if_pos (not_operandOk.1 h)]

theorem w8_ok {r : Reg8} {v : Byte} {s : State} (h : operandOk r s) : w8 r v s = .ok (setOperand r v s) := by
  rw [w8_eq, if_neg fun hr => not_operandOk.2 hr h]

theorem w8_error {r : Reg8} {v : Byte} {s : State} (h : ¬ operandOk r s) :
    w8 r v s = .error { kind := .memoryOutOfRange, detail := some (hlAddr s) } := by
  rw [w8_eq, if_pos (not_operandOk.1 h)]

/-- Everything `push16` can do (20_memory.md R60). -/
theorem push16_eq (v : Word) (s : State) :
    push16 v s = if s.sp.toNat ≤ 1 then .error { kind := .stackUnderflowProtection, detail := some s.sp.toNat }
      else if s.params.memSize ≤ s.sp.toNat then .error { kind := .memoryOutOfRange, detail := some s.sp.toNat }
      else .ok (afterPush v s) := by
  unfold push16
  split
  · rfl
  · rename_i h
    have e : (s.sp - 2).toNat = s.sp.toNat - 2 := by
      rw [BitVec.toNat_sub_of_le]
      · rfl
      · rw [BitVec.le_def]; simp; omega
    simp only [e, show s.sp.toNat - 2 + 2 = s.sp.toNat by omega, afterPush]
    split
    · rename_i hs
      rw [memWrite_error (s := { s with sp := s.sp - 2 }) hs]; rfl
    · rename_i hs
      rw [memWrite_ok (s := { s with sp := s.sp - 2 }) (Nat.lt_of_not_le hs)]
      simp only [bind, Except.bind, e, show s.sp.toNat - 2 + 1 = s.sp.toNat - 1 by omega]
      exact memWrite_ok (show s.sp.toNat - 1 < s.params.memSize by omega)

theorem push16_ok {v : Word} {s : State} (h : pushOk s) : push16 v s = .ok (afterPush v s) := by
  rw [push16_eq, if_neg (Nat.not_le.2 h.1), if_neg (Nat.not_le.2 h.2)]

/-- Everything `pop16` can do (20_memory.md R61). -/
theorem pop16_eq (s : State) :
    pop16 s = if 0xFFFE ≤ s.sp.toNat then .error { kind := .stackPopOutOfRange, detail := some s.sp.toNat }
      else if s.params.memSize ≤ s.sp.toNat + 2 then .error { kind := .memoryOutOfRange, detail := some (s.sp.toNat + 2) }
      else .ok (stackTop s, { s with sp := s.sp + 2 }) := by
  unfold pop16
  split
  · rfl
  · rename_i h
    have e : (s.sp + 2).toNat = s.sp.toNat + 2 := by
      rw [BitVec.toNat_add]; simp; omega
    simp only [e, show s.sp.toNat + 2 - 1 = s.sp.toNat + 1 by omega, stackTop]
    split
    · rename_i hs
      rw [memRead_error (s := { s with sp := s.sp + 2 }) hs]; rfl
    · rename_i hs
      rw [memRead_ok (s := { s with sp := s.sp + 2 }) (Nat.lt_of_not_le hs),
        memRead_ok (s := { s with sp := s.sp + 2 }) (show s.sp.toNat + 1 < s.params.memSize by omega)]
      rfl

theorem pop16_ok {s : State} (h : popOk s) : pop16 s = .ok (stackTop s, { s with sp := s.sp + 2 }) := by
  rw [pop16_eq, if_neg (Nat.not_le.2 h.1), if_neg (Nat.not_le.2 h.2)]

/-- Everything `fetch8` can do (20_memory.md R56). -/
theorem fetch8_eq (s : State) :
    fetch8 s = if s.params.memSize ≤ s.pc.toNat then .error { kind := .memoryOutOfRange, detail := some s.pc.toNat }
      else if s.pc = 0xFFFF then .error { kind := .pcOverflow, detail := some s.pc.toNat }
      else .ok (readMem s.mem s.pc.toNat, advancePc 1 s) := by
  unfold fetch8
  by_cases h : s.params.memSize ≤ s.pc.toNat
  · rw [memRead_error h, if_pos h]; rfl
  · rw [memRead_ok (Nat.lt_of_not_le h), if_neg h]; rfl

theorem advancePc_advancePc (m n : Nat) (s : State) : advancePc m (advancePc n s) = advancePc (n + m) s := by
  simp [advancePc, BitVec.add_assoc, BitVec.ofNat_add]

/-- Everything the fetch of byte `k` of an instruction can do, when the bytes before it lie below 0xFFFF. -/
theorem fetch8_advancePc {s : State} {k : Nat} (h : s.pc.toNat + k ≤ 0xFFFF) :
    fetch8 (advancePc k s) =
      if s.params.memSize ≤ s.pc.toNat + k then .error { kind := .memoryOutOfRange, detail := some (s.pc.toNat + k) }
      else if s.pc.toNat + k = 0xFFFF then .error { kind := .pcOverflow, detail := some 0xFFFF }
      else .ok (readMem s.mem (s.pc.toNat + k), advancePc (k + 1) s) := by
  have e : (advancePc k s).pc.toNat = s.pc.toNat + k := by
    rw [advancePc_pc, BitVec.toNat_add, BitVec.toNat_ofNat, Nat.add_mod_mod]
    exact Nat.mod_eq_of_lt (by omega)
  have hp : (advancePc k s).pc = 0xFFFF ↔ s.pc.toNat + k = 0xFFFF := by
    rw [← e]
    exact ⟨fun hp => by rw [hp]; rfl, fun hp => BitVec.eq_of_toNat_eq hp⟩
  rw [fetch8_eq, e, advancePc_params, advancePc_mem, advancePc_advancePc]
  by_cases hk : s.pc.toNat + k = 0xFFFF
  · rw [if_pos hk, if_pos (hp.2 hk), hk]
  · rw [if_neg hk, if_neg (mt hp.1 hk)]

/-- The first byte: `k = 0`. -/
theorem advancePc_zero (s : State) : advancePc 0 s = s := by
  simp [advancePc]

end Sys2Proof.Machine
end

