-- ==== Sys2Proof/Laws/Forms.lean ====
section
/-! SUPPORT. The form of each instruction: what the 256 constructors share. A law about all instructions is proved by cases on the
form, of which there are few, and not by cases on the instruction. -/

namespace Sys2Proof.Machine

/-- The forms: one constructor per body. -/
inductive Form where
  | mov (dst src : Reg8) | mvi (dst : Reg8) (v : Byte) | lxi (p : Pair) (v : Word)
  | lda (v : Word) | sta (v : Word) | ldax (p : IndexPair) | stax (p : IndexPair) | lhld (v : Word) | shld (v : Word) | xchg
  | aluReg (op : AluOp) (r : Reg8) | aluImm (op : AluOp) (v : Byte)
  | inr (r : Reg8) | dcr (r : Reg8) | inx (p : Pair) | dcx (p : Pair) | dad (p : Pair) | daa
  | rlc | rrc | ral | rar | stc | cmc | cma
  | jump (v : Word) | jumpIf (k : Cond) (v : Word) | call (v : Word) | callIf (k : Cond) (v : Word)
  | ret | retIf (k : Cond) | pchl | rst (n : Nat)
  | push (p : StackPair) | pop (p : StackPair) | xthl | sphl
  | input (v : Byte) | output (v : Byte) | halt | noOp | enableInt | disableInt
  deriving DecidableEq, Repr

/-- The form of an instruction. -/
def formOf : Instr → Form
  | .nop => .noOp
  | .lxiB v => .lxi .bc v
  | .staxB => .stax .bc
  | .inxB => .inx .bc
  | .inrB => .inr .b
  | .dcrB => .dcr .b
  | .mviB v => .mvi .b v
  | .rlc => .rlc
  | .nopAlias08 => .noOp
  | .dadB => .dad .bc
  | .ldaxB => .ldax .bc
  | .dcxB => .dcx .bc
  | .inrC => .inr .c
  | .dcrC => .dcr .c
  | .mviC v => .mvi .c v
  | .rrc => .rrc
  | .nopAlias10 => .noOp
  | .lxiD v => .lxi .de v
  | .staxD => .stax .de
  | .inxD => .inx .de
  | .inrD => .inr .d
  | .dcrD => .dcr .d
  | .mviD v => .mvi .d v
  | .ral => .ral
  | .nopAlias18 => .noOp
  | .dadD => .dad .de
  | .ldaxD => .ldax .de
  | .dcxD => .dcx .de
  | .inrE => .inr .e
  | .dcrE => .dcr .e
  | .mviE v => .mvi .e v
  | .rar => .rar
  | .nopAlias20 => .noOp
  | .lxiH v => .lxi .hl v
  | .shld v => .shld v
  | .inxH => .inx .hl
  | .inrH => .inr .h
  | .dcrH => .dcr .h
  | .mviH v => .mvi .h v
  | .daa => .daa
  | .nopAlias28 => .noOp
  | .dadH => .dad .hl
  | .lhld v => .lhld v
  | .dcxH => .dcx .hl
  | .inrL => .inr .l
  | .dcrL => .dcr .l
  | .mviL v => .mvi .l v
  | .cma => .cma
  | .nopAlias30 => .noOp
  | .lxiSp v => .lxi .sp v
  | .sta v => .sta v
  | .inxSp => .inx .sp
  | .inrM => .inr .m
  | .dcrM => .dcr .m
  | .mviM v => .mvi .m v
  | .stc => .stc
  | .nopAlias38 => .noOp
  | .dadSp => .dad .sp
  | .lda v => .lda v
  | .dcxSp => .dcx .sp
  | .inrA => .inr .a
  | .dcrA => .dcr .a
  | .mviA v => .mvi .a v
  | .cmc => .cmc
  | .movBB => .mov .b .b
  | .movBC => .mov .b .c
  | .movBD => .mov .b .d
  | .movBE => .mov .b .e
  | .movBH => .mov .b .h
  | .movBL => .mov .b .l
  | .movBM => .mov .b .m
  | .movBA => .mov .b .a
  | .movCB => .mov .c .b
  | .movCC => .mov .c .c
  | .movCD => .mov .c .d
  | .movCE => .mov .c .e
  | .movCH => .mov .c .h
  | .movCL => .mov .c .l
  | .movCM => .mov .c .m
  | .movCA => .mov .c .a
  | .movDB => .mov .d .b
  | .movDC => .mov .d .c
  | .movDD => .mov .d .d
  | .movDE => .mov .d .e
  | .movDH => .mov .d .h
  | .movDL => .mov .d .l
  | .movDM => .mov .d .m
  | .movDA => .mov .d .a
  | .movEB => .mov .e .b
  | .movEC => .mov .e .c
  | .movED => .mov .e .d
  | .movEE => .mov .e .e
  | .movEH => .mov .e .h
  | .movEL => .mov .e .l
  | .movEM => .mov .e .m
  | .movEA => .mov .e .a
  | .movHB => .mov .h .b
  | .movHC => .mov .h .c
  | .movHD => .mov .h .d
  | .movHE => .mov .h .e
  | .movHH => .mov .h .h
  | .movHL => .mov .h .l
  | .movHM => .mov .h .m
  | .movHA => .mov .h .a
  | .movLB => .mov .l .b
  | .movLC => .mov .l .c
  | .movLD => .mov .l .d
  | .movLE => .mov .l .e
  | .movLH => .mov .l .h
  | .movLL => .mov .l .l
  | .movLM => .mov .l .m
  | .movLA => .mov .l .a
  | .movMB => .mov .m .b
  | .movMC => .mov .m .c
  | .movMD => .mov .m .d
  | .movME => .mov .m .e
  | .movMH => .mov .m .h
  | .movML => .mov .m .l
  | .hlt => .halt
  | .movMA => .mov .m .a
  | .movAB => .mov .a .b
  | .movAC => .mov .a .c
  | .movAD => .mov .a .d
  | .movAE => .mov .a .e
  | .movAH => .mov .a .h
  | .movAL => .mov .a .l
  | .movAM => .mov .a .m
  | .movAA => .mov .a .a
  | .addB => .aluReg .add .b
  | .addC => .aluReg .add .c
  | .addD => .aluReg .add .d
  | .addE => .aluReg .add .e
  | .addH => .aluReg .add .h
  | .addL => .aluReg .add .l
  | .addM => .aluReg .add .m
  | .addA => .aluReg .add .a
  | .adcB => .aluReg .adc .b
  | .adcC => .aluReg .adc .c
  | .adcD => .aluReg .adc .d
  | .adcE => .aluReg .adc .e
  | .adcH => .aluReg .adc .h
  | .adcL => .aluReg .adc .l
  | .adcM => .aluReg .adc .m
  | .adcA => .aluReg .adc .a
  | .subB => .aluReg .sub .b
  | .subC => .aluReg .sub .c
  | .subD => .aluReg .sub .d
  | .subE => .aluReg .sub .e
  | .subH => .aluReg .sub .h
  | .subL => .aluReg .sub .l
  | .subM => .aluReg .sub .m
  | .subA => .aluReg .sub .a
  | .sbbB => .aluReg .sbb .b
  | .sbbC => .aluReg .sbb .c
  | .sbbD => .aluReg .sbb .d
  | .sbbE => .aluReg .sbb .e
  | .sbbH => .aluReg .sbb .h
  | .sbbL => .aluReg .sbb .l
  | .sbbM => .aluReg .sbb .m
  | .sbbA => .aluReg .sbb .a
  | .anaB => .aluReg .ana .b
  | .anaC => .aluReg .ana .c
  | .anaD => .aluReg .ana .d
  | .anaE => .aluReg .ana .e
  | .anaH => .aluReg .ana .h
  | .anaL => .aluReg .ana .l
  | .anaM => .aluReg .ana .m
  | .anaA => .aluReg .ana .a
  | .xraB => .aluReg .xra .b
  | .xraC => .aluReg .xra .c
  | .xraD => .aluReg .xra .d
  | .xraE => .aluReg .xra .e
  | .xraH => .aluReg .xra .h
  | .xraL => .aluReg .xra .l
  | .xraM => .aluReg .xra .m
  | .xraA => .aluReg .xra .a
  | .oraB => .aluReg .ora .b
  | .oraC => .aluReg .ora .c
  | .oraD => .aluReg .ora .d
  | .oraE => .aluReg .ora .e
  | .oraH => .aluReg .ora .h
  | .oraL => .aluReg .ora .l
  | .oraM => .aluReg .ora .m
  | .oraA => .aluReg .ora .a
  | .cmpB => .aluReg .cmp .b
  | .cmpC => .aluReg .cmp .c
  | .cmpD => .aluReg .cmp .d
  | .cmpE => .aluReg .cmp .e
  | .cmpH => .aluReg .cmp .h
  | .cmpL => .aluReg .cmp .l
  | .cmpM => .aluReg .cmp .m
  | .cmpA => .aluReg .cmp .a
  | .rnz => .retIf .nz
  | .popB => .pop .bc
  | .jnz v => .jumpIf .nz v
  | .jmp v => .jump v
  | .cnz v => .callIf .nz v
  | .pushB => .push .bc
  | .adi v => .aluImm .add v
  | .rst0 => .rst 0
  | .rz => .retIf .z
  | .ret => .ret
  | .jz v => .jumpIf .z v
  | .jmpAlias v => .jump v
  | .cz v => .callIf .z v
  | .call v => .call v
  | .aci v => .aluImm .adc v
  | .rst1 => .rst 1
  | .rnc => .retIf .nc
  | .popD => .pop .de
  | .jnc v => .jumpIf .nc v
  | .outp v => .output v
  | .cnc v => .callIf .nc v
  | .pushD => .push .de
  | .sui v => .aluImm .sub v
  | .rst2 => .rst 2
  | .rc => .retIf .c
  | .retAlias => .ret
  | .jc v => .jumpIf .c v
  | .inp v => .input v
  | .cc v => .callIf .c v
  | .callAliasDD v => .call v
  | .sbi v => .aluImm .sbb v
  | .rst3 => .rst 3
  | .rpo => .retIf .po
  | .popH => .pop .hl
  | .jpo v => .jumpIf .po v
  | .xthl => .xthl
  | .cpo v => .callIf .po v
  | .pushH => .push .hl
  | .ani v => .aluImm .ana v
  | .rst4 => .rst 4
  | .rpe => .retIf .pe
  | .pchl => .pchl
  | .jpe v => .jumpIf .pe v
  | .xchg => .xchg
  | .cpe v => .callIf .pe v
  | .callAliasED v => .call v
  | .xri v => .aluImm .xra v
  | .rst5 => .rst 5
  | .rp => .retIf .p
  | .popPsw => .pop .psw
  | .jp v => .jumpIf .p v
  | .di => .disableInt
  | .cp v => .callIf .p v
  | .pushPsw => .push .psw
  | .ori v => .aluImm .ora v
  | .rst6 => .rst 6
  | .rm => .retIf .m
  | .sphl => .sphl
  | .jm v => .jumpIf .m v
  | .ei => .enableInt
  | .cm v => .callIf .m v
  | .callAliasFD v => .call v
  | .cpi v => .aluImm .cmp v
  | .rst7 => .rst 7

/-- The ALU body of an operation on an immediate byte. -/
def aluImmBody : AluOp → Byte → Body
  | .add => addImm
  | .adc => adcImm
  | .sub => subImm
  | .sbb => sbbImm
  | .ana => anaImm
  | .xra => xraImm
  | .ora => oraImm
  | .cmp => cmpImm

/-- The ALU body of an operation on a register or M. -/
def aluRegBody : AluOp → Reg8 → Body
  | .add => addReg
  | .adc => adcReg
  | .sub => subReg
  | .sbb => sbbReg
  | .ana => anaReg
  | .xra => xraReg
  | .ora => oraReg
  | .cmp => cmpReg

/-- The body of a form. -/
def Form.body : Form → Body
  | .mov dst src => Machine.mov dst src | .mvi dst v => Machine.mvi dst v | .lxi p v => Machine.lxi p v
  | .lda v => Machine.lda v | .sta v => Machine.sta v | .ldax p => Machine.ldax p | .stax p => Machine.stax p
  | .lhld v => Machine.lhld v | .shld v => Machine.shld v | .xchg => Machine.xchg
  | .aluReg op r => aluRegBody op r | .aluImm op v => aluImmBody op v
  | .inr r => Machine.inr r | .dcr r => Machine.dcr r | .inx p => Machine.inx p | .dcx p => Machine.dcx p
  | .dad p => Machine.dad p | .daa => Machine.daa
  | .rlc => Machine.rlc | .rrc => Machine.rrc | .ral => Machine.ral | .rar => Machine.rar
  | .stc => Machine.stc | .cmc => Machine.cmc | .cma => Machine.cma
  | .jump v => Machine.jump v | .jumpIf k v => Machine.jumpIf k v | .call v => Machine.call v
  | .callIf k v => Machine.callIf k v | .ret => Machine.ret | .retIf k => Machine.retIf k
  | .pchl => Machine.pchl | .rst n => Machine.rst n
  | .push p => Machine.push p | .pop p => Machine.pop p | .xthl => Machine.xthl | .sphl => Machine.sphl
  | .input v => Machine.input v | .output v => Machine.output v | .halt => Machine.halt | .noOp => Machine.noOp
  | .enableInt => Machine.enableInt | .disableInt => Machine.disableInt

/-- When a form has a meaning (30_encoding.md R85). -/
def Form.avail : Form → Avail
  | .daa => .daaExecute
  | .xthl | .sphl | .pchl | .rst _ | .enableInt | .disableInt => .unlistedExecute
  | _ => .always

/-- The number of bytes of a form (30_encoding.md R76). -/
def Form.bytes : Form → Nat
  | .mvi _ _ | .aluImm _ _ | .input _ | .output _ => 2
  | .lxi _ _ | .lda _ | .sta _ | .lhld _ | .shld _ | .jump _ | .jumpIf _ _ | .call _ | .callIf _ _ => 3
  | _ => 1

/-- The duration of a form (70_reset_and_hazards.md R256). -/
def Form.dur : Form → Nat
  | .mov dst src => if dst = .m ∨ src = .m then 7 else 5
  | .mvi dst _ => if dst = .m then 10 else 7
  | .lxi _ _ | .input _ | .output _ | .dad _ | .jump _ | .jumpIf _ _ | .ret | .pop _ => 10
  | .lda _ | .sta _ => 13
  | .lhld _ | .shld _ => 16
  | .aluReg _ r => if r = .m then 7 else 4
  | .ldax _ | .stax _ | .aluImm _ _ | .halt => 7
  | .inr r | .dcr r => if r = .m then 10 else 5
  | .inx _ | .dcx _ | .pchl | .sphl => 5
  | .call _ | .callIf _ _ => 17
  | .retIf _ | .rst _ | .push _ => 11
  | .xthl => 18
  | .xchg | .daa | .rlc | .rrc | .ral | .rar | .stc | .cmc | .cma | .noOp | .enableInt | .disableInt => 4

/-- The alternate duration of a form (70_reset_and_hazards.md R255). -/
def Form.alt : Form → Nat
  | .jumpIf _ _ => 10
  | .callIf _ _ => 11
  | .retIf _ => 5
  | _ => 0

/-- The flags a form writes. -/
def Form.flagsWritten : Form → List FlagName
  | .aluReg _ _ | .aluImm _ _ | .daa | .pop .psw => [.s, .z, .ac, .p, .cy]
  | .inr _ | .dcr _ => [.s, .z, .ac, .p]
  | .dad _ | .rlc | .rrc | .ral | .rar | .stc | .cmc => [.cy]
  | _ => []

/-- The registers a byte register operand names. -/
def Reg8.names : Reg8 → List RegName
  | .b => [.b] | .c => [.c] | .d => [.d] | .e => [.e] | .h => [.h] | .l => [.l] | .m => [] | .a => [.a]

/-- The registers a pair names. -/
def Pair.names : Pair → List RegName
  | .bc => [.b, .c] | .de => [.d, .e] | .hl => [.h, .l] | .sp => [.sp]

/-- The registers a form writes. -/
def Form.regsWritten : Form → List RegName
  | .mov r _ | .mvi r _ | .inr r | .dcr r => Reg8.names r
  | .lxi p _ | .inx p | .dcx p => Pair.names p
  | .lda _ | .ldax _ | .daa | .rlc | .rrc | .ral | .rar | .cma | .input _ => [.a]
  | .aluReg .cmp _ | .aluImm .cmp _ => []
  | .aluReg _ _ | .aluImm _ _ => [.a]
  | .lhld _ | .dad _ | .xthl => [.h, .l]
  | .xchg => [.d, .e, .h, .l]
  | .call _ | .callIf _ _ | .ret | .retIf _ | .rst _ | .push _ | .sphl => [.sp]
  | .pop .psw => [.sp, .a] | .pop .bc => [.sp, .b, .c] | .pop .de => [.sp, .d, .e] | .pop .hl => [.sp, .h, .l]
  | _ => []

/-- The addresses a form stores to. -/
def Form.storeAddrs (F : Form) (s : State) : List Nat :=
  match F with
  | .mov .m _ | .mvi .m _ | .inr .m | .dcr .m => [hlAddr s]
  | .sta v => [v.toNat]
  | .shld v => [v.toNat, v.toNat + 1]
  | .stax p => [indexAddr p s]
  | .xthl => [s.sp.toNat + 1, s.sp.toNat + 2]
  | .push _ | .call _ | .rst _ => [s.sp.toNat, s.sp.toNat - 1]
  | .callIf k _ => if condHolds k s.f then [s.sp.toNat, s.sp.toNat - 1] else []
  | _ => []

/-! ### An instruction agrees with its form -/

theorem bodyOf_eq_body (i : Instr) : bodyOf i = (formOf i).body := by cases i <;> rfl
theorem lenOf_eq_bytes (i : Instr) : lenOf i = (formOf i).bytes := by cases i <;> rfl
theorem durOf_eq_dur (i : Instr) : durOf i = (formOf i).dur := by cases i <;> rfl
theorem altOf_eq_alt (i : Instr) : altOf i = (formOf i).alt := by cases i <;> rfl
theorem avail_eq (i : Instr) : (rowOf (opcodeOf i)).avail = (formOf i).avail := by cases i <;> rfl
theorem flagsWritten_eq (i : Instr) : flagsWritten i = (formOf i).flagsWritten := by cases i <;> rfl
theorem regsWritten_eq (i : Instr) : regsWritten i = (formOf i).regsWritten := by cases i <;> rfl
theorem storeAddrs_eq (i : Instr) (s : State) : storeAddrs i s = (formOf i).storeAddrs s := by cases i <;> rfl

/-- Whether an instruction has a meaning is whether its form has. -/
theorem hasMeaning_eq (p : Params) (i : Instr) :
    hasMeaning p i = (match (formOf i).avail with
      | .always => true
      | .daaExecute => decide (p.daaMode = .execute)
      | .unlistedExecute => decide (p.unlistedOps = .execute)) := by
  cases h : (formOf i).avail <;> simp [hasMeaning, avail_eq, h]

/-! ### The instructions of a form -/

@[simp] theorem formOf_mvi (r : Reg8) (v : Byte) : formOf (mviInstr r v) = .mvi r v := by cases r <;> rfl
@[simp] theorem formOf_lxi (p : Pair) (v : Word) : formOf (lxiInstr p v) = .lxi p v := by cases p <;> rfl
@[simp] theorem formOf_ldax (p : IndexPair) : formOf (ldaxInstr p) = .ldax p := by cases p <;> rfl
@[simp] theorem formOf_stax (p : IndexPair) : formOf (staxInstr p) = .stax p := by cases p <;> rfl
@[simp] theorem formOf_aluReg (op : AluOp) (r : Reg8) : formOf (aluRegInstr op r) = .aluReg op r := by cases op <;> cases r <;> rfl
@[simp] theorem formOf_inr (r : Reg8) : formOf (inrInstr r) = .inr r := by cases r <;> rfl
@[simp] theorem formOf_dcr (r : Reg8) : formOf (dcrInstr r) = .dcr r := by cases r <;> rfl
@[simp] theorem formOf_inx (p : Pair) : formOf (inxInstr p) = .inx p := by cases p <;> rfl
@[simp] theorem formOf_dcx (p : Pair) : formOf (dcxInstr p) = .dcx p := by cases p <;> rfl
@[simp] theorem formOf_dad (p : Pair) : formOf (dadInstr p) = .dad p := by cases p <;> rfl
@[simp] theorem formOf_jumpIf (k : Cond) (v : Word) : formOf (jccInstr k v) = .jumpIf k v := by cases k <;> rfl
@[simp] theorem formOf_callIf (k : Cond) (v : Word) : formOf (cccInstr k v) = .callIf k v := by cases k <;> rfl
@[simp] theorem formOf_retIf (k : Cond) : formOf (rccInstr k) = .retIf k := by cases k <;> rfl
@[simp] theorem formOf_push (p : StackPair) : formOf (pushInstr p) = .push p := by cases p <;> rfl
@[simp] theorem formOf_pop (p : StackPair) : formOf (popInstr p) = .pop p := by cases p <;> rfl
theorem formOf_mov {dst src : Reg8} {i : Instr} (h : movInstr dst src = some i) : formOf i = .mov dst src := by
  cases dst <;> cases src <;> cases h <;> rfl
@[simp] theorem formOf_rst (n : Fin 8) : formOf (rstInstr n) = .rst n := by revert n; decide
theorem formOf_jmp {v : Word} {i : Instr} (h : i ∈ jmpInstrs v) : formOf i = .jump v := by
  simp only [jmpInstrs, List.mem_cons, List.not_mem_nil, or_false] at h; rcases h with rfl | rfl <;> rfl
theorem formOf_callInstrs {v : Word} {i : Instr} (h : i ∈ callInstrs v) : formOf i = .call v := by
  simp only [callInstrs, List.mem_cons, List.not_mem_nil, or_false] at h; rcases h with rfl | rfl | rfl | rfl <;> rfl
theorem formOf_retInstrs {i : Instr} (h : i ∈ retInstrs) : formOf i = .ret := by
  simp only [retInstrs, List.mem_cons, List.not_mem_nil, or_false] at h; rcases h with rfl | rfl <;> rfl

/-! ### Back from the form to the instruction -/

theorem eq_of_formOf_mvi {i : Instr} {r : Reg8} {v : Byte} (hf : formOf i = .mvi r v) : i = mviInstr r v := by
  cases i <;> cases hf <;> rfl
theorem eq_of_formOf_lxi {i : Instr} {p : Pair} {v : Word} (hf : formOf i = .lxi p v) : i = lxiInstr p v := by
  cases i <;> cases hf <;> rfl
theorem eq_of_formOf_ldax {i : Instr} {p : IndexPair} (hf : formOf i = .ldax p) : i = ldaxInstr p := by
  cases i <;> cases hf <;> rfl
theorem eq_of_formOf_stax {i : Instr} {p : IndexPair} (hf : formOf i = .stax p) : i = staxInstr p := by
  cases i <;> cases hf <;> rfl
theorem eq_of_formOf_aluReg {i : Instr} {op : AluOp} {r : Reg8} (hf : formOf i = .aluReg op r) : i = aluRegInstr op r := by
  cases i <;> cases hf <;> rfl
theorem eq_of_formOf_inr {i : Instr} {r : Reg8} (hf : formOf i = .inr r) : i = inrInstr r := by
  cases i <;> cases hf <;> rfl
theorem eq_of_formOf_dcr {i : Instr} {r : Reg8} (hf : formOf i = .dcr r) : i = dcrInstr r := by
  cases i <;> cases hf <;> rfl
theorem eq_of_formOf_inx {i : Instr} {p : Pair} (hf : formOf i = .inx p) : i = inxInstr p := by
  cases i <;> cases hf <;> rfl
theorem eq_of_formOf_dcx {i : Instr} {p : Pair} (hf : formOf i = .dcx p) : i = dcxInstr p := by
  cases i <;> cases hf <;> rfl
theorem eq_of_formOf_dad {i : Instr} {p : Pair} (hf : formOf i = .dad p) : i = dadInstr p := by
  cases i <;> cases hf <;> rfl
theorem eq_of_formOf_jumpIf {i : Instr} {k : Cond} {v : Word} (hf : formOf i = .jumpIf k v) : i = jccInstr k v := by
  cases i <;> cases hf <;> rfl
theorem eq_of_formOf_callIf {i : Instr} {k : Cond} {v : Word} (hf : formOf i = .callIf k v) : i = cccInstr k v := by
  cases i <;> cases hf <;> rfl
theorem eq_of_formOf_retIf {i : Instr} {k : Cond} (hf : formOf i = .retIf k) : i = rccInstr k := by
  cases i <;> cases hf <;> rfl
theorem eq_of_formOf_push {i : Instr} {p : StackPair} (hf : formOf i = .push p) : i = pushInstr p := by
  cases i <;> cases hf <;> rfl
theorem eq_of_formOf_pop {i : Instr} {p : StackPair} (hf : formOf i = .pop p) : i = popInstr p := by
  cases i <;> cases hf <;> rfl
theorem eq_of_formOf_rst {i : Instr} {n : Nat} (hf : formOf i = .rst n) : ∃ h : n < 8, i = rstInstr ⟨n, h⟩ := by
  cases i <;> cases hf <;> exact ⟨by decide, rfl⟩
theorem mem_of_formOf_call {i : Instr} {v : Word} (hf : formOf i = .call v) : i ∈ callInstrs v := by
  cases i <;> cases hf <;> simp [callInstrs]
theorem mem_of_formOf_ret {i : Instr} (hf : formOf i = .ret) : i ∈ retInstrs := by
  cases i <;> cases hf <;> simp [retInstrs]
theorem eq_of_formOf_lhld {i : Instr} {v : Word} (hf : formOf i = .lhld v) : i = .lhld v := by
  cases i <;> cases hf
  rfl
theorem eq_of_formOf_shld {i : Instr} {v : Word} (hf : formOf i = .shld v) : i = .shld v := by
  cases i <;> cases hf
  rfl
theorem eq_of_formOf_xthl {i : Instr} (hf : formOf i = .xthl) : i = .xthl := by
  cases i <;> cases hf
  rfl
theorem eq_of_formOf_halt {i : Instr} (hf : formOf i = .halt) : i = .hlt := by
  cases i <;> cases hf
  rfl
theorem eq_of_formOf_daa {i : Instr} (hf : formOf i = .daa) : i = .daa := by
  cases i <;> cases hf
  rfl
theorem eq_of_formOf_sphl {i : Instr} (hf : formOf i = .sphl) : i = .sphl := by
  cases i <;> cases hf
  rfl
theorem eq_of_formOf_pchl {i : Instr} (hf : formOf i = .pchl) : i = .pchl := by
  cases i <;> cases hf
  rfl
theorem eq_of_formOf_enableInt {i : Instr} (hf : formOf i = .enableInt) : i = .ei := by
  cases i <;> cases hf
  rfl
theorem eq_of_formOf_disableInt {i : Instr} (hf : formOf i = .disableInt) : i = .di := by
  cases i <;> cases hf
  rfl
theorem eq_of_formOf_input {i : Instr} {v : Byte} (hf : formOf i = .input v) : i = .inp v := by
  cases i <;> cases hf
  rfl
theorem eq_of_formOf_output {i : Instr} {v : Byte} (hf : formOf i = .output v) : i = .outp v := by
  cases i <;> cases hf
  rfl

end Sys2Proof.Machine
end

