-- ==== Sys2Proof/Laws/Bodies.lean ====
section
/-! SUPPORT. Everything a body can do, said once: the fault it raises (`body_error`), and what a body that answers keeps
(`body_frame`). Proved form by form. -/

namespace Sys2Proof.Machine

/-! ### Taking a body apart -/

theorem bind_ok {α β : Type} {e : Except Raise α} {f : α → Except Raise β} {y : β} (h : (do let v ← e; f v) = .ok y) :
    ∃ v, e = .ok v ∧ f v = .ok y := by
  cases e with
  | ok v => exact ⟨v, rfl, h⟩
  | error x => cases h

theorem bind_error {α β : Type} {e : Except Raise α} {f : α → Except Raise β} {x : Raise}
    (h : (do let v ← e; f v) = .error x) : e = .error x ∨ ∃ v, e = .ok v ∧ f v = .error x := by
  cases e with
  | ok v => exact .inr ⟨v, rfl, h⟩
  | error y => cases h; exact .inl rfl

theorem w8_inv {r : Reg8} {v : Byte} {s t : State} (h : w8 r v s = .ok t) : t = setOperand r v s ∧ operandOk r s := by
  by_cases ho : operandOk r s
  · rw [w8_ok ho] at h; cases h; exact ⟨rfl, ho⟩
  · rw [w8_error ho] at h; cases h

theorem memWrite_inv {a : Nat} {v : Byte} {s t : State} (h : memWrite a v s = .ok t) :
    t = { s with mem := writeMem s.mem a v } ∧ a < s.params.memSize := by
  rcases memWrite_cases h with ⟨hl, e⟩ | ⟨_, e⟩
  · cases e; exact ⟨rfl, hl⟩
  · cases e

theorem push16_inv {v : Word} {s t : State} (h : push16 v s = .ok t) : t = afterPush v s ∧ pushOk s := by
  rw [push16_eq] at h
  split at h
  · cases h
  · split at h
    · cases h
    · cases h; exact ⟨rfl, by omega, by omega⟩

theorem pop16_inv {v : Word} {s t : State} (h : pop16 s = .ok (v, t)) :
    v = stackTop s ∧ t = { s with sp := s.sp + 2 } ∧ popOk s := by
  rw [pop16_eq] at h
  split at h
  · cases h
  · split at h
    · cases h
    · cases h; exact ⟨rfl, rfl, by omega, by omega⟩

/-! ### What a body raises -/

/-- `MemoryOutOfRange` at an address (60_exceptions.md R216). -/
def RaisesMemory (s : State) (x : Raise) (addr : Nat) : Prop :=
  x = { kind := .memoryOutOfRange, detail := some addr } ∧ s.params.memSize ≤ addr

/-- What a push raises (60_exceptions.md R214, R216). -/
def RaisesPush (s : State) (x : Raise) : Prop :=
  (x = { kind := .stackUnderflowProtection, detail := some s.sp.toNat } ∧ s.sp.toNat ≤ 1) ∨ RaisesMemory s x s.sp.toNat

/-- What a pop or XTHL raises (60_exceptions.md R215, R216). -/
def RaisesPop (s : State) (x : Raise) : Prop :=
  (x = { kind := .stackPopOutOfRange, detail := some s.sp.toNat } ∧ 0xFFFE ≤ s.sp.toNat) ∨
  (s.sp.toNat < 0xFFFE ∧ (RaisesMemory s x (s.sp.toNat + 1) ∨ RaisesMemory s x (s.sp.toNat + 2)))

theorem r8_raises {r : Reg8} {s : State} {x : Raise} (h : r8 r s = .error x) : RaisesMemory s x (hlAddr s) := by
  by_cases ho : operandOk r s
  · rw [r8_ok ho] at h; cases h
  · rw [r8_error ho] at h; cases h; exact ⟨rfl, (not_operandOk.1 ho).2⟩

theorem w8_raises {r : Reg8} {v : Byte} {s : State} {x : Raise} (h : w8 r v s = .error x) : RaisesMemory s x (hlAddr s) := by
  by_cases ho : operandOk r s
  · rw [w8_ok ho] at h; cases h
  · rw [w8_error ho] at h; cases h; exact ⟨rfl, (not_operandOk.1 ho).2⟩

theorem memRead_raises {a : Nat} {s : State} {x : Raise} (h : memRead a s = .error x) : RaisesMemory s x a := by
  rcases memRead_cases h with ⟨_, e⟩ | ⟨hl, e⟩
  · cases e
  · cases e; exact ⟨rfl, hl⟩

theorem memWrite_raises {a : Nat} {v : Byte} {s : State} {x : Raise} (h : memWrite a v s = .error x) :
    RaisesMemory s x a := by
  rcases memWrite_cases h with ⟨_, e⟩ | ⟨hl, e⟩
  · cases e
  · cases e; exact ⟨rfl, hl⟩

theorem push16_raises {v : Word} {s : State} {x : Raise} (h : push16 v s = .error x) : RaisesPush s x := by
  rw [push16_eq] at h
  split at h
  · cases h; exact .inl ⟨rfl, by assumption⟩
  · split at h
    · cases h; exact .inr ⟨rfl, by assumption⟩
    · cases h

theorem pop16_raises {s : State} {x : Raise} (h : pop16 s = .error x) : RaisesPop s x := by
  rw [pop16_eq] at h
  split at h
  · cases h; exact .inl ⟨rfl, by assumption⟩
  · split at h
    · cases h; exact .inr ⟨by omega, .inr ⟨rfl, by assumption⟩⟩
    · cases h

theorem mov_raises {dst src : Reg8} {s : State} {x : Raise} (h : mov dst src s = .error x) : RaisesMemory s x (hlAddr s) := by
  rcases bind_error h with h | ⟨_, _, h⟩
  · exact r8_raises h
  · rcases bind_error h with h | ⟨_, _, h⟩
    · exact w8_raises h
    · cases h

theorem inr_raises {r : Reg8} {s : State} {x : Raise} (h : inr r s = .error x) : RaisesMemory s x (hlAddr s) := by
  rcases bind_error h with h | ⟨_, _, h⟩
  · exact r8_raises h
  · rcases bind_error h with h | ⟨_, _, h⟩
    · exact w8_raises h
    · cases h

theorem dcr_raises {r : Reg8} {s : State} {x : Raise} (h : dcr r s = .error x) : RaisesMemory s x (hlAddr s) := by
  rcases bind_error h with h | ⟨_, _, h⟩
  · exact r8_raises h
  · rcases bind_error h with h | ⟨_, _, h⟩
    · exact w8_raises h
    · cases h

theorem mvi_raises {r : Reg8} {v : Byte} {s : State} {x : Raise} (h : mvi r v s = .error x) : RaisesMemory s x (hlAddr s) := by
  rcases bind_error h with h | ⟨_, _, h⟩
  · exact w8_raises h
  · cases h

theorem lda_raises {v : Word} {s : State} {x : Raise} (h : lda v s = .error x) : RaisesMemory s x v.toNat := by
  rcases bind_error h with h | ⟨_, _, h⟩
  · exact memRead_raises h
  · cases h

theorem sta_raises {v : Word} {s : State} {x : Raise} (h : sta v s = .error x) : RaisesMemory s x v.toNat := by
  rcases bind_error h with h | ⟨_, _, h⟩
  · exact memWrite_raises h
  · cases h

theorem ldax_raises {p : IndexPair} {s : State} {x : Raise} (h : ldax p s = .error x) : RaisesMemory s x (indexAddr p s) := by
  rcases bind_error h with h | ⟨_, _, h⟩
  · exact memRead_raises h
  · cases h

theorem stax_raises {p : IndexPair} {s : State} {x : Raise} (h : stax p s = .error x) : RaisesMemory s x (indexAddr p s) := by
  rcases bind_error h with h | ⟨_, _, h⟩
  · exact memWrite_raises h
  · cases h

theorem aluReg_raises {op : AluOp} {r : Reg8} {s : State} {x : Raise} (h : aluRegBody op r s = .error x) :
    RaisesMemory s x (hlAddr s) := by
  cases op <;>
  · rcases bind_error h with h | ⟨_, _, h⟩
    · exact r8_raises h
    · cases h

theorem lhld_raises {v : Word} {s : State} {x : Raise} (h : lhld v s = .error x) :
    RaisesMemory s x v.toNat ∨ RaisesMemory s x (v.toNat + 1) := by
  rcases bind_error h with h | ⟨_, _, h⟩
  · exact .inl (memRead_raises h)
  · rcases bind_error h with h | ⟨_, _, h⟩
    · exact .inr (memRead_raises h)
    · cases h

theorem shld_raises {v : Word} {s : State} {x : Raise} (h : shld v s = .error x) :
    RaisesMemory s x v.toNat ∨ RaisesMemory s x (v.toNat + 1) := by
  rcases bind_error h with h | ⟨_, h1, h⟩
  · exact .inl (memWrite_raises h)
  · obtain ⟨rfl, _⟩ := memWrite_inv h1
    rcases bind_error h with h | ⟨_, _, h⟩
    · have hx := memWrite_raises h
      exact .inr hx
    · cases h

theorem call_raises {v : Word} {s : State} {x : Raise} (h : call v s = .error x) : RaisesPush s x := by
  rcases bind_error h with h | ⟨_, _, h⟩
  · exact push16_raises h
  · cases h

theorem push_raises {p : StackPair} {s : State} {x : Raise} (h : push p s = .error x) : RaisesPush s x := by
  rcases bind_error h with h | ⟨_, _, h⟩
  · exact push16_raises h
  · cases h

theorem ret_raises {s : State} {x : Raise} (h : ret s = .error x) : RaisesPop s x := by
  rcases bind_error h with h | ⟨_, _, h⟩
  · exact pop16_raises h
  · cases h

theorem pop_raises {p : StackPair} {s : State} {x : Raise} (h : pop p s = .error x) : RaisesPop s x := by
  rcases bind_error h with h | ⟨_, _, h⟩
  · exact pop16_raises h
  · cases h

theorem callIf_raises {k : Cond} {v : Word} {s : State} {x : Raise} (h : callIf k v s = .error x) :
    condHolds k s.f = true ∧ RaisesPush s x := by
  unfold callIf at h
  split at h
  · exact ⟨by assumption, call_raises h⟩
  · cases h

theorem retIf_raises {k : Cond} {s : State} {x : Raise} (h : retIf k s = .error x) :
    condHolds k s.f = true ∧ RaisesPop s x := by
  unfold retIf at h
  split at h
  · exact ⟨by assumption, ret_raises h⟩
  · cases h

theorem xthl_raises {s : State} {x : Raise} (h : xthl s = .error x) : RaisesPop s x := by
  unfold xthl at h
  split at h
  · cases h; exact .inl ⟨rfl, by assumption⟩
  · refine .inr ⟨by omega, ?_⟩
    rcases bind_error h with h | ⟨_, _, h⟩
    · exact .inl (memRead_raises h)
    · rcases bind_error h with h | ⟨_, _, h⟩
      · exact .inr (memRead_raises h)
      · rcases bind_error h with h | ⟨_, h1, h⟩
        · exact .inl (memWrite_raises h)
        · obtain ⟨rfl, _⟩ := memWrite_inv h1
          rcases bind_error h with h | ⟨_, _, h⟩
          · have hx := memWrite_raises h
            exact .inr hx
          · cases h

/-- Everything a body can raise: MemoryOutOfRange at a 16-bit address, or at the address after the operand of LHLD or SHLD; or what
a push or a pop raises, by an instruction that pushes or pops. -/
theorem body_error {i : Instr} {s : State} {x : Raise} (h : bodyOf i s = .error x) :
    (∃ a, a < 65536 ∧ RaisesMemory s x a) ∨ (∃ v : Word, (i = .lhld v ∨ i = .shld v) ∧ RaisesMemory s x (v.toNat + 1)) ∨
    (pushesNow i s ∧ RaisesPush s x) ∨ (popsNow i s ∧ RaisesPop s x) := by
  have hl : hlAddr s < 65536 := BitVec.isLt _
  have hi : ∀ p, indexAddr p s < 65536 := fun p => by cases p <;> exact BitVec.isLt _
  rw [bodyOf_eq_body] at h
  cases hf : formOf i <;> rw [hf] at h <;> simp only [Form.body] at h
  case mov => exact .inl ⟨_, hl, mov_raises h⟩
  case mvi => exact .inl ⟨_, hl, mvi_raises h⟩
  case aluReg => exact .inl ⟨_, hl, aluReg_raises h⟩
  case aluImm op _ => cases op <;> cases h
  case inr => exact .inl ⟨_, hl, inr_raises h⟩
  case dcr => exact .inl ⟨_, hl, dcr_raises h⟩
  case lda => exact .inl ⟨_, BitVec.isLt _, lda_raises h⟩
  case sta => exact .inl ⟨_, BitVec.isLt _, sta_raises h⟩
  case ldax => exact .inl ⟨_, hi _, ldax_raises h⟩
  case stax => exact .inl ⟨_, hi _, stax_raises h⟩
  case lhld =>
    rcases lhld_raises h with h | h
    · exact .inl ⟨_, BitVec.isLt _, h⟩
    · exact .inr (.inl ⟨_, .inl (eq_of_formOf_lhld hf), h⟩)
  case shld =>
    rcases shld_raises h with h | h
    · exact .inl ⟨_, BitVec.isLt _, h⟩
    · exact .inr (.inl ⟨_, .inr (eq_of_formOf_shld hf), h⟩)
  case jumpIf => unfold jumpIf at h; split at h <;> cases h
  case push => exact .inr (.inr (.inl ⟨.inl ⟨_, eq_of_formOf_push hf⟩, push_raises h⟩))
  case call => exact .inr (.inr (.inl ⟨.inr (.inl ⟨_, mem_of_formOf_call hf⟩), call_raises h⟩))
  case callIf =>
    have ⟨hk, hx⟩ := callIf_raises h
    exact .inr (.inr (.inl ⟨.inr (.inr (.inl ⟨_, _, eq_of_formOf_callIf hf, hk⟩)), hx⟩))
  case rst =>
    have ⟨hn, e⟩ := eq_of_formOf_rst hf
    exact .inr (.inr (.inl ⟨.inr (.inr (.inr ⟨_, e⟩)), call_raises h⟩))
  case pop => exact .inr (.inr (.inr ⟨.inl ⟨_, eq_of_formOf_pop hf⟩, pop_raises h⟩))
  case ret => exact .inr (.inr (.inr ⟨.inr (.inl (mem_of_formOf_ret hf)), ret_raises h⟩))
  case retIf =>
    have ⟨hk, hx⟩ := retIf_raises h
    exact .inr (.inr (.inr ⟨.inr (.inr (.inl ⟨_, eq_of_formOf_retIf hf, hk⟩)), hx⟩))
  case xthl => exact .inr (.inr (.inr ⟨.inr (.inr (.inr (eq_of_formOf_xthl hf))), xthl_raises h⟩))
  all_goals cases h

/-! ### What a body that answers keeps -/

/-- The form returns Alternate at a state: a conditional call or return whose condition fails. -/
def Form.fails (F : Form) (s : State) : Prop :=
  (∃ k v, F = .callIf k v ∧ condHolds k s.f = false) ∨ (∃ k, F = .retIf k ∧ condHolds k s.f = false)

/-- What a body of this form keeps, and the result it answers. -/
structure BodyFrame (F : Form) (s t : State) (r : HandlerResult) : Prop where
  params : t.params = s.params
  run : t.run = s.run
  wait : t.wait = s.wait
  inte : F ≠ .enableInt → F ≠ .disableInt → t.inte = s.inte
  ioLog : (∀ v, F ≠ .output v) → t.ioLog = s.ioLog
  ioReads : (∀ v, F ≠ .input v) → t.ioReads = s.ioReads
  regs : ∀ n, n ∉ F.regsWritten → regValue n t = regValue n s
  flags : ∀ n, n ∉ F.flagsWritten → flagValue n t.f = flagValue n s.f
  noFlags : F.flagsWritten = [] → t.f = s.f
  fixed : F ≠ .pop .psw → t.f &&& 0x2A#8 = s.f &&& 0x2A#8
  forced : F = .pop .psw → t.f &&& 0x2A#8 = 0x02#8
  mem : ∀ a, a ∉ F.storeAddrs s → readMem t.mem a = readMem s.mem a
  memWf : Memory.wf s.mem = true → Memory.wf t.mem = true
  memBounded : boundedBy s.params.memSize s.mem = true → boundedBy s.params.memSize t.mem = true
  halts : r = .halt ↔ F = .halt
  alternate : r = .alternate ↔ F.fails s

theorem regs_setOperand (dst : Reg8) (v : Byte) (s : State) :
    ∀ n, n ∉ Reg8.names dst → regValue n (setOperand dst v s) = regValue n s := by
  intro n; cases dst <;> cases n <;> simp [Reg8.names, regValue, setOperand]

theorem regs_setrp16 (p : Pair) (v : Word) (s : State) :
    ∀ n, n ∉ Pair.names p → regValue n (setrp16 p v s) = regValue n s := by
  intro n; cases p <;> cases n <;> simp [Pair.names, regValue, setrp16]

theorem mem_setOperand (dst : Reg8) (v : Byte) (s : State) :
    ∀ a, (dst = .m → a ≠ hlAddr s) → readMem (setOperand dst v s).mem a = readMem s.mem a := by
  intro a h
  cases dst <;> first | rfl | exact readMem_writeMem_other _ _ (h rfl)

theorem memWf_setOperand (dst : Reg8) (v : Byte) (s : State) (h : Memory.wf s.mem = true) :
    Memory.wf (setOperand dst v s).mem = true := by
  cases dst <;> first | exact h | exact writeMem_wf h _ _

theorem memBounded_setOperand (dst : Reg8) (v : Byte) {s : State} (ho : operandOk dst s)
    (h : boundedBy s.params.memSize s.mem = true) : boundedBy s.params.memSize (setOperand dst v s).mem = true := by
  cases dst <;> first | exact h | exact writeMem_bounded h (ho rfl) _

/-- The forms that touch neither memory, INTE nor I/O, and do not stop or fail. -/
theorem BodyFrame.plain {F : Form} {s t : State} (hp : t.params = s.params) (hr : t.run = s.run) (hw : t.wait = s.wait)
    (hi : t.inte = s.inte) (hl : t.ioLog = s.ioLog) (hd : t.ioReads = s.ioReads) (hm : t.mem = s.mem)
    (regs : ∀ n, n ∉ F.regsWritten → regValue n t = regValue n s)
    (flags : ∀ n, n ∉ F.flagsWritten → flagValue n t.f = flagValue n s.f) (noFlags : F.flagsWritten = [] → t.f = s.f)
    (fixed : t.f &&& 0x2A#8 = s.f &&& 0x2A#8) (np : F ≠ .pop .psw) (nh : F ≠ .halt) (nf : ¬ F.fails s) :
    BodyFrame F s t .primary :=
  ⟨hp, hr, hw, fun _ _ => hi, fun _ => hl, fun _ => hd, regs, flags, noFlags, fun _ => fixed, fun e => absurd e np,
    fun _ _ => by rw [hm], by rw [hm]; exact id, by rw [hm]; exact id, ⟨nofun, fun e => absurd e nh⟩,
    ⟨nofun, fun e => absurd e nf⟩⟩

theorem not_fails_of_callIf {F : Form} {s : State} (h1 : ∀ k v, F = .callIf k v → condHolds k s.f = true)
    (h2 : ∀ k, F = .retIf k → condHolds k s.f = true) : ¬ F.fails s := by
  rintro (⟨k, v, e, h⟩ | ⟨k, e, h⟩)
  · rw [h1 k v e] at h; cases h
  · rw [h2 k e] at h; cases h

/-- The forms that write one register operand. -/
theorem BodyFrame.operand {F : Form} {dst : Reg8} {v f : Byte} {s : State} (ho : operandOk dst s)
    (hF : F.regsWritten = Reg8.names dst) (hs : dst = .m → F.storeAddrs s = [hlAddr s])
    (flags : ∀ n, n ∉ F.flagsWritten → flagValue n f = flagValue n s.f) (noFlags : F.flagsWritten = [] → f = s.f)
    (fixed : f &&& 0x2A#8 = s.f &&& 0x2A#8) (np : F ≠ .pop .psw) (nh : F ≠ .halt) (nf : ¬ F.fails s) :
    BodyFrame F s { setOperand dst v s with f := f } .primary := by
  refine ⟨by simp, by simp, by simp, fun _ _ => by simp, fun _ => by simp, fun _ => by simp, ?_, flags, noFlags,
    fun _ => fixed, fun e => absurd e np, ?_, memWf_setOperand dst v s, memBounded_setOperand dst v ho,
    ⟨nofun, fun e => absurd e nh⟩, ⟨nofun, fun e => absurd e nf⟩⟩
  · intro n hn
    rw [hF] at hn
    have := regs_setOperand dst v s n hn
    cases n <;> exact this
  · intro a ha
    apply mem_setOperand
    rintro hd rfl
    rw [hs hd] at ha
    exact ha (List.mem_singleton.2 rfl)

/-- The forms that push. -/
theorem BodyFrame.pushed {F : Form} {v pc : Word} {s : State} (ho : pushOk s) (hr : F.regsWritten = [.sp])
    (hs : F.storeAddrs s = [s.sp.toNat, s.sp.toNat - 1]) (np : F ≠ .pop .psw)
    (nh : F ≠ .halt) (nf : ¬ F.fails s) : BodyFrame F s { afterPush v s with pc := pc } .primary := by
  obtain ⟨h5, h6⟩ := ho
  refine ⟨rfl, rfl, rfl, fun _ _ => rfl, fun _ => rfl, fun _ => rfl, ?_, fun _ _ => rfl, fun _ => rfl, fun _ => rfl,
    fun e => absurd e np, ?_, fun h => writeMem_wf (writeMem_wf h _ _) _ _,
    fun h => writeMem_bounded (writeMem_bounded h h6 _) (by omega) _, ⟨nofun, fun e => absurd e nh⟩,
    ⟨nofun, fun e => absurd e nf⟩⟩
  · rw [hr]; intro n hn; cases n <;> first | rfl | exact absurd (List.mem_singleton.2 rfl) hn
  · intro a h
    rw [hs] at h
    simp only [List.mem_cons, List.not_mem_nil, or_false, not_or] at h
    show readMem (writeMem (writeMem _ _ _) _ _) _ = _
    rw [readMem_writeMem_other _ _ h.2, readMem_writeMem_other _ _ h.1]

/-- The forms that store one or two bytes and write no flag. -/
theorem BodyFrame.stored {F : Form} {s t : State} {m : Memory} (ht : t = { s with l := t.l, h := t.h, mem := m })
    (regs : ∀ n, n ∉ F.regsWritten → regValue n t = regValue n s)
    (mem : ∀ a, a ∉ F.storeAddrs s → readMem m a = readMem s.mem a)
    (wf : Memory.wf s.mem = true → Memory.wf m = true)
    (bounded : boundedBy s.params.memSize s.mem = true → boundedBy s.params.memSize m = true)
    (np : F ≠ .pop .psw) (nh : F ≠ .halt) (nf : ¬ F.fails s) : BodyFrame F s t .primary := by
  rw [ht] at regs ⊢
  exact ⟨rfl, rfl, rfl, fun _ _ => rfl, fun _ => rfl, fun _ => rfl, regs, fun _ _ => rfl, fun _ => rfl, fun _ => rfl,
    fun e => absurd e np, mem, wf, bounded, ⟨nofun, fun e => absurd e nh⟩, ⟨nofun, fun e => absurd e nf⟩⟩

theorem regs_of {R : List RegName} {s t : State} (h : ∀ n, n ∈ R ∨ regValue n t = regValue n s) :
    ∀ n, n ∉ R → regValue n t = regValue n s := fun n hn => (h n).resolve_left hn

theorem mov_frame {dst src : Reg8} {s t : State} {r : HandlerResult} (h : mov dst src s = .ok (t, r)) :
    BodyFrame (.mov dst src) s t r := by
  obtain ⟨v, _, h⟩ := bind_ok h
  obtain ⟨u, h2, h⟩ := bind_ok h
  cases h
  obtain ⟨rfl, ho⟩ := w8_inv h2
  have := BodyFrame.operand (F := .mov dst src) (v := v) (f := s.f) ho rfl (by rintro rfl; rfl) (fun _ _ => rfl)
    (fun _ => rfl) rfl nofun nofun (not_fails_of_callIf nofun nofun)
  cases dst <;> exact this

theorem mvi_frame {dst : Reg8} {v : Byte} {s t : State} {r : HandlerResult} (h : mvi dst v s = .ok (t, r)) :
    BodyFrame (.mvi dst v) s t r := by
  obtain ⟨u, h2, h⟩ := bind_ok h
  cases h
  obtain ⟨rfl, ho⟩ := w8_inv h2
  have := BodyFrame.operand (F := .mvi dst v) (v := v) (f := s.f) ho rfl (by rintro rfl; rfl) (fun _ _ => rfl)
    (fun _ => rfl) rfl nofun nofun (not_fails_of_callIf nofun nofun)
  cases dst <;> exact this

theorem stepFlags_frame {mode : AcMode} {x f : Byte} {ac : Bool} :
    ∀ n, n ∉ [FlagName.s, .z, .ac, .p] → flagValue n (stepFlags mode x ac f) = flagValue n f := by
  intro n hn
  cases n <;> first | exact absurd (by decide) hn | simp [flagValue, stepFlags, setAC, szp, setP, setS, setZ]

theorem setCY_frame {v : Bool} {f : Byte} : ∀ n, n ∉ [FlagName.cy] → flagValue n (setCY v f) = flagValue n f := by
  intro n hn
  cases n <;> first | exact absurd (by decide) hn | simp [flagValue, setCY]

theorem all_flags {p : FlagName → Prop} : ∀ n, n ∉ [FlagName.s, .z, .ac, .p, .cy] → p n := by
  intro n hn
  cases n <;> exact absurd (by decide) hn

theorem inr_frame {dst : Reg8} {s t : State} {r : HandlerResult} (h : inr dst s = .ok (t, r)) :
    BodyFrame (.inr dst) s t r := by
  obtain ⟨v, _, h⟩ := bind_ok h
  obtain ⟨u, h2, h⟩ := bind_ok h
  cases h
  obtain ⟨rfl, ho⟩ := w8_inv h2
  exact BodyFrame.operand (F := .inr dst) ho rfl (by rintro rfl; rfl)
    (by rw [setOperand_params, setOperand_f]; exact stepFlags_frame) nofun (by simp) nofun nofun
    (not_fails_of_callIf nofun nofun)

theorem dcr_frame {dst : Reg8} {s t : State} {r : HandlerResult} (h : dcr dst s = .ok (t, r)) :
    BodyFrame (.dcr dst) s t r := by
  obtain ⟨v, _, h⟩ := bind_ok h
  obtain ⟨u, h2, h⟩ := bind_ok h
  cases h
  obtain ⟨rfl, ho⟩ := w8_inv h2
  exact BodyFrame.operand (F := .dcr dst) ho rfl (by rintro rfl; rfl)
    (by rw [setOperand_params, setOperand_f]; exact stepFlags_frame) nofun (by simp) nofun nofun
    (not_fails_of_callIf nofun nofun)

theorem setrp16_frame {F : Form} {p : Pair} {v : Word} {s : State} (hF : F.regsWritten = Pair.names p)
    (np : F ≠ .pop .psw) (nh : F ≠ .halt) (nf : ¬ F.fails s) : BodyFrame F s (setrp16 p v s) .primary :=
  .plain (by simp) (by simp) (by simp) (by simp) (by simp) (by simp) (by simp) (hF ▸ regs_setrp16 p v s) (fun _ _ => by simp)
    (fun _ => by simp) (by simp) np nh nf

theorem putA_frame {F : Form} {s : State} {x f : Byte} (hr : F.regsWritten = [.a] ∨ x = s.a)
    (hf : F.flagsWritten = [.s, .z, .ac, .p, .cy]) (fixed : f &&& 0x2A#8 = s.f &&& 0x2A#8) (np : F ≠ .pop .psw)
    (nh : F ≠ .halt) (nf : ¬ F.fails s) : BodyFrame F s { s with a := x, f := f } .primary := by
  refine .plain rfl rfl rfl rfl rfl rfl rfl ?_ (hf ▸ all_flags) (fun e => ?_) fixed np nh nf
  · rcases hr with hr | rfl
    · rw [hr]; exact regs_of (by intro n; cases n <;> first | exact .inl (by decide) | exact .inr rfl)
    · intro n _; cases n <;> rfl
  · rw [hf] at e; cases e

theorem aluImm_frame {op : AluOp} {v : Byte} {s t : State} {r : HandlerResult} (h : aluImmBody op v s = .ok (t, r)) :
    BodyFrame (.aluImm op v) s t r := by
  cases op <;> cases h
  case cmp => exact putA_frame (.inr rfl) rfl (by simp) nofun nofun (not_fails_of_callIf nofun nofun)
  all_goals exact putA_frame (.inl rfl) rfl (by simp) nofun nofun (not_fails_of_callIf nofun nofun)

theorem aluReg_frame {op : AluOp} {x : Reg8} {s t : State} {r : HandlerResult} (h : aluRegBody op x s = .ok (t, r)) :
    BodyFrame (.aluReg op x) s t r := by
  cases op <;> obtain ⟨v, _, h⟩ := bind_ok h <;> cases h
  case cmp => exact putA_frame (.inr rfl) rfl (by simp) nofun nofun (not_fails_of_callIf nofun nofun)
  all_goals exact putA_frame (.inl rfl) rfl (by simp) nofun nofun (not_fails_of_callIf nofun nofun)

theorem lda_frame {v : Word} {s t : State} {r : HandlerResult} (h : lda v s = .ok (t, r)) : BodyFrame (.lda v) s t r := by
  obtain ⟨x, _, h⟩ := bind_ok h
  cases h
  exact .plain rfl rfl rfl rfl rfl rfl rfl (regs_of (R := [.a]) (by intro n; cases n <;> first | exact .inl (by decide) | exact .inr rfl))
    (fun _ _ => rfl) (fun _ => rfl) rfl nofun nofun (not_fails_of_callIf nofun nofun)

theorem ldax_frame {p : IndexPair} {s t : State} {r : HandlerResult} (h : ldax p s = .ok (t, r)) :
    BodyFrame (.ldax p) s t r := by
  obtain ⟨x, _, h⟩ := bind_ok h
  cases h
  exact .plain rfl rfl rfl rfl rfl rfl rfl (regs_of (R := [.a]) (by intro n; cases n <;> first | exact .inl (by decide) | exact .inr rfl))
    (fun _ _ => rfl) (fun _ => rfl) rfl nofun nofun (not_fails_of_callIf nofun nofun)

theorem lhld_frame {v : Word} {s t : State} {r : HandlerResult} (h : lhld v s = .ok (t, r)) : BodyFrame (.lhld v) s t r := by
  obtain ⟨x, _, h⟩ := bind_ok h
  obtain ⟨y, _, h⟩ := bind_ok h
  cases h
  exact .plain rfl rfl rfl rfl rfl rfl rfl (regs_of (R := [.h, .l]) (by intro n; cases n <;> first | exact .inl (by decide) | exact .inr rfl))
    (fun _ _ => rfl) (fun _ => rfl) rfl nofun nofun (not_fails_of_callIf nofun nofun)

theorem sta_frame {v : Word} {s t : State} {r : HandlerResult} (h : sta v s = .ok (t, r)) : BodyFrame (.sta v) s t r := by
  obtain ⟨u, h1, h⟩ := bind_ok h
  cases h
  obtain ⟨rfl, ho⟩ := memWrite_inv h1
  exact .stored rfl (fun _ _ => rfl)
    (fun a ha => readMem_writeMem_other s.mem s.a (show a ≠ v.toNat from fun e => ha (List.mem_singleton.2 e)))
    (fun hm => writeMem_wf hm _ _) (fun hm => writeMem_bounded hm ho _) nofun nofun (not_fails_of_callIf nofun nofun)

theorem stax_frame {p : IndexPair} {s t : State} {r : HandlerResult} (h : stax p s = .ok (t, r)) :
    BodyFrame (.stax p) s t r := by
  obtain ⟨u, h1, h⟩ := bind_ok h
  cases h
  obtain ⟨rfl, ho⟩ := memWrite_inv h1
  exact .stored rfl (fun _ _ => rfl)
    (fun a ha => readMem_writeMem_other s.mem s.a (show a ≠ indexAddr p s from fun e => ha (List.mem_singleton.2 e)))
    (fun hm => writeMem_wf hm _ _) (fun hm => writeMem_bounded hm ho _) nofun nofun (not_fails_of_callIf nofun nofun)

theorem readMem_two_writes {m : Memory} {a b c : Nat} {v w : Byte} (h : c ∉ [a, b]) :
    readMem (writeMem (writeMem m a v) b w) c = readMem m c := by
  simp only [List.mem_cons, List.not_mem_nil, or_false, not_or] at h
  rw [readMem_writeMem_other _ _ h.2, readMem_writeMem_other _ _ h.1]

theorem shld_frame {v : Word} {s t : State} {r : HandlerResult} (h : shld v s = .ok (t, r)) : BodyFrame (.shld v) s t r := by
  obtain ⟨u, h1, h⟩ := bind_ok h
  obtain ⟨rfl, ho⟩ := memWrite_inv h1
  obtain ⟨u, h2, h⟩ := bind_ok h
  cases h
  obtain ⟨rfl, ho'⟩ := memWrite_inv h2
  exact .stored rfl (fun _ _ => rfl) (fun a ha => readMem_two_writes ha)
    (fun hm => writeMem_wf (writeMem_wf hm _ _) _ _) (fun hm => writeMem_bounded (writeMem_bounded hm ho _) ho' _) nofun
    nofun (not_fails_of_callIf nofun nofun)

theorem xthl_frame {s t : State} {r : HandlerResult} (h : xthl s = .ok (t, r)) : BodyFrame .xthl s t r := by
  unfold xthl at h
  split at h
  · cases h
  · obtain ⟨x, _, h⟩ := bind_ok h
    obtain ⟨y, _, h⟩ := bind_ok h
    obtain ⟨u, h1, h⟩ := bind_ok h
    obtain ⟨rfl, ho⟩ := memWrite_inv h1
    obtain ⟨u, h2, h⟩ := bind_ok h
    cases h
    obtain ⟨rfl, ho'⟩ := memWrite_inv h2
    exact .stored rfl (regs_of (R := [.h, .l]) (by intro n; cases n <;> first | exact .inl (by decide) | exact .inr rfl))
      (fun a ha => readMem_two_writes ha) (fun hm => writeMem_wf (writeMem_wf hm _ _) _ _)
      (fun hm => writeMem_bounded (writeMem_bounded hm ho _) ho' _) nofun nofun (not_fails_of_callIf nofun nofun)

theorem push_frame {p : StackPair} {s t : State} {r : HandlerResult} (h : push p s = .ok (t, r)) :
    BodyFrame (.push p) s t r := by
  obtain ⟨u, h1, h⟩ := bind_ok h
  cases h
  obtain ⟨rfl, ho⟩ := push16_inv h1
  exact BodyFrame.pushed (pc := s.pc) ho rfl rfl nofun nofun (not_fails_of_callIf nofun nofun)

theorem call_frame {F : Form} {v : Word} {s t : State} {r : HandlerResult} (h : call v s = .ok (t, r))
    (hr : F.regsWritten = [.sp]) (hs : F.storeAddrs s = [s.sp.toNat, s.sp.toNat - 1])
    (np : F ≠ .pop .psw) (nh : F ≠ .halt) (nf : ¬ F.fails s) : BodyFrame F s t r := by
  obtain ⟨u, h1, h⟩ := bind_ok h
  cases h
  obtain ⟨rfl, ho⟩ := push16_inv h1
  exact .pushed ho hr hs np nh nf

/-- The frame of a form that answers Alternate and changes nothing. -/
theorem BodyFrame.failed {F : Form} {s : State} (np : F ≠ .pop .psw) (nh : F ≠ .halt) (hf : F.fails s) :
    BodyFrame F s s .alternate :=
  ⟨rfl, rfl, rfl, fun _ _ => rfl, fun _ => rfl, fun _ => rfl, fun _ _ => rfl, fun _ _ => rfl, fun _ => rfl, fun _ => rfl,
    fun e => absurd e np, fun _ _ => rfl, id, id, ⟨nofun, fun e => absurd e nh⟩, ⟨fun _ => hf, fun _ => rfl⟩⟩

theorem callIf_frame {k : Cond} {v : Word} {s t : State} {r : HandlerResult} (h : callIf k v s = .ok (t, r)) :
    BodyFrame (.callIf k v) s t r := by
  unfold callIf at h
  split at h
  · rename_i hk
    exact call_frame h rfl (if_pos hk) nofun nofun (not_fails_of_callIf (by rintro _ _ ⟨⟩; exact hk) nofun)
  · rename_i hk
    cases h
    exact .failed nofun nofun (.inl ⟨k, v, rfl, by simpa using hk⟩)

theorem ret_frame {F : Form} {s t : State} {r : HandlerResult} (h : ret s = .ok (t, r)) (hr : F.regsWritten = [.sp])
    (np : F ≠ .pop .psw) (nh : F ≠ .halt) (nf : ¬ F.fails s) : BodyFrame F s t r := by
  obtain ⟨⟨v, u⟩, h1, h⟩ := bind_ok h
  cases h
  obtain ⟨rfl, rfl, _⟩ := pop16_inv h1
  exact .plain rfl rfl rfl rfl rfl rfl rfl
    (hr ▸ regs_of (R := [.sp]) (by intro n; cases n <;> first | exact .inl (by decide) | exact .inr rfl)) (fun _ _ => rfl) (fun _ => rfl) rfl np nh nf

theorem retIf_frame {k : Cond} {s t : State} {r : HandlerResult} (h : retIf k s = .ok (t, r)) :
    BodyFrame (.retIf k) s t r := by
  unfold retIf at h
  split at h
  · rename_i hk
    exact ret_frame h rfl nofun nofun (not_fails_of_callIf nofun (by rintro _ ⟨⟩; exact hk))
  · rename_i hk
    cases h
    exact .failed nofun nofun (.inr ⟨k, rfl, by simpa using hk⟩)

theorem pop_frame {p : StackPair} {s t : State} {r : HandlerResult} (h : pop p s = .ok (t, r)) :
    BodyFrame (.pop p) s t r := by
  obtain ⟨⟨v, u⟩, h1, h⟩ := bind_ok h
  cases h
  obtain ⟨rfl, rfl, _⟩ := pop16_inv h1
  cases p
  case psw =>
    exact ⟨rfl, rfl, rfl, fun _ _ => rfl, fun _ => rfl, fun _ => rfl,
      regs_of (R := [.sp, .a]) (by intro n; cases n <;> first | exact .inl (by decide) | exact .inr rfl), all_flags, nofun, fun e => absurd rfl e,
      fun _ => normF_fixed _, fun _ _ => rfl, id, id, ⟨nofun, nofun⟩,
      ⟨nofun, fun e => absurd e (not_fails_of_callIf nofun nofun)⟩⟩
  case bc =>
    exact .plain rfl rfl rfl rfl rfl rfl rfl
      (regs_of (R := [.sp, .b, .c]) (by intro n; cases n <;> first | exact .inl (by decide) | exact .inr rfl))
      (fun _ _ => rfl) (fun _ => rfl) rfl nofun nofun (not_fails_of_callIf nofun nofun)
  case de =>
    exact .plain rfl rfl rfl rfl rfl rfl rfl
      (regs_of (R := [.sp, .d, .e]) (by intro n; cases n <;> first | exact .inl (by decide) | exact .inr rfl))
      (fun _ _ => rfl) (fun _ => rfl) rfl nofun nofun (not_fails_of_callIf nofun nofun)
  case hl =>
    exact .plain rfl rfl rfl rfl rfl rfl rfl
      (regs_of (R := [.sp, .h, .l]) (by intro n; cases n <;> first | exact .inl (by decide) | exact .inr rfl))
      (fun _ _ => rfl) (fun _ => rfl) rfl nofun nofun (not_fails_of_callIf nofun nofun)

theorem input_frame {v : Byte} {s t : State} {r : HandlerResult} (h : input v s = .ok (t, r)) :
    BodyFrame (.input v) s t r := by
  unfold input ioInput at h
  cases hio : s.params.io <;> rw [hio] at h <;> cases h <;>
    exact ⟨rfl, rfl, rfl, fun _ _ => rfl, fun _ => rfl, fun e => absurd rfl (e v),
      regs_of (R := [.a]) (by intro n; cases n <;> first | exact .inl (by decide) | exact .inr rfl), fun _ _ => rfl, fun _ => rfl, fun _ => rfl, nofun,
      fun _ _ => rfl, id, id, ⟨nofun, nofun⟩, ⟨nofun, fun e => absurd e (not_fails_of_callIf nofun nofun)⟩⟩

/-- The frame of a form that changes INTE or the I/O log only. -/
theorem BodyFrame.system {F : Form} {s : State} {b : Bool} {io : List (Byte × Byte)}
    (hb : b = s.inte ∨ F = .enableInt ∨ F = .disableInt) (hl : io = s.ioLog ∨ ∃ v, F = .output v) (np : F ≠ .pop .psw)
    (nh : F ≠ .halt) (nf : ¬ F.fails s) : BodyFrame F s { s with inte := b, ioLog := io } .primary := by
  refine ⟨rfl, rfl, rfl, fun h1 h2 => ?_, fun h => ?_, fun _ => rfl, fun _ _ => rfl, fun _ _ => rfl, fun _ => rfl,
    fun _ => rfl, fun e => absurd e np, fun _ _ => rfl, id, id, ⟨nofun, fun e => absurd e nh⟩,
    ⟨nofun, fun e => absurd e nf⟩⟩
  · rcases hb with hb | hb | hb
    · exact hb
    · exact absurd hb h1
    · exact absurd hb h2
  · rcases hl with hl | ⟨v, hl⟩
    · exact hl
    · exact absurd hl (h v)

/-- Everything a body that answers keeps. -/
theorem body_frame {F : Form} {s t : State} {r : HandlerResult} (h : F.body s = .ok (t, r)) : BodyFrame F s t r := by
  cases F <;> simp only [Form.body] at h
  case mov => exact mov_frame h
  case mvi => exact mvi_frame h
  case lxi => cases h; exact setrp16_frame rfl nofun nofun (not_fails_of_callIf nofun nofun)
  case inx => cases h; exact setrp16_frame rfl nofun nofun (not_fails_of_callIf nofun nofun)
  case dcx => cases h; exact setrp16_frame rfl nofun nofun (not_fails_of_callIf nofun nofun)
  case aluReg => exact aluReg_frame h
  case aluImm => exact aluImm_frame h
  case inr => exact inr_frame h
  case dcr => exact dcr_frame h
  case lda => exact lda_frame h
  case ldax => exact ldax_frame h
  case lhld => exact lhld_frame h
  case sta => exact sta_frame h
  case stax => exact stax_frame h
  case shld => exact shld_frame h
  case xthl => exact xthl_frame h
  case push => exact push_frame h
  case pop => exact pop_frame h
  case call => exact call_frame h rfl rfl nofun nofun (not_fails_of_callIf nofun nofun)
  case rst => exact call_frame h rfl rfl nofun nofun (not_fails_of_callIf nofun nofun)
  case callIf => exact callIf_frame h
  case ret => exact ret_frame h rfl nofun nofun (not_fails_of_callIf nofun nofun)
  case retIf => exact retIf_frame h
  case jumpIf =>
    unfold jumpIf at h
    split at h <;> cases h <;>
      exact .plain rfl rfl rfl rfl rfl rfl rfl (fun _ _ => rfl) (fun _ _ => rfl) (fun _ => rfl) rfl nofun nofun
        (not_fails_of_callIf nofun nofun)
  case input => exact input_frame h
  case output v => cases h; exact .system (.inl rfl) (.inr ⟨v, rfl⟩) nofun nofun (not_fails_of_callIf nofun nofun)
  case enableInt => cases h; exact .system (.inr (.inl rfl)) (.inl rfl) nofun nofun (not_fails_of_callIf nofun nofun)
  case disableInt => cases h; exact .system (.inr (.inr rfl)) (.inl rfl) nofun nofun (not_fails_of_callIf nofun nofun)
  case halt =>
    cases h
    exact ⟨rfl, rfl, rfl, fun _ _ => rfl, fun _ => rfl, fun _ => rfl, fun _ _ => rfl, fun _ _ => rfl, fun _ => rfl,
      fun _ => rfl, nofun, fun _ _ => rfl, id, id, ⟨fun _ => rfl, fun _ => rfl⟩,
      ⟨nofun, fun e => absurd e (not_fails_of_callIf nofun nofun)⟩⟩
  case daa =>
    cases h
    exact .plain rfl rfl rfl rfl rfl rfl rfl (regs_of (R := [.a]) (by intro n; cases n <;> first | exact .inl (by decide) | exact .inr rfl)) all_flags nofun
      (by simp) nofun nofun (not_fails_of_callIf nofun nofun)
  case dad =>
    cases h
    exact .plain rfl rfl rfl rfl rfl rfl rfl (regs_of (R := [.h, .l]) (by intro n; cases n <;> first | exact .inl (by decide) | exact .inr rfl)) setCY_frame
      nofun (by simp) nofun nofun (not_fails_of_callIf nofun nofun)
  case rlc | rrc | ral | rar =>
    cases h
    exact .plain rfl rfl rfl rfl rfl rfl rfl (regs_of (R := [.a]) (by intro n; cases n <;> first | exact .inl (by decide) | exact .inr rfl)) setCY_frame
      nofun (by simp [putRotate]) nofun nofun (not_fails_of_callIf nofun nofun)
  case stc | cmc =>
    cases h
    exact .plain rfl rfl rfl rfl rfl rfl rfl (fun _ _ => rfl) setCY_frame nofun (by simp) nofun nofun
      (not_fails_of_callIf nofun nofun)
  case xchg =>
    cases h
    exact .plain rfl rfl rfl rfl rfl rfl rfl
      (regs_of (R := [.d, .e, .h, .l]) (by intro n; cases n <;> first | exact .inl (by decide) | exact .inr rfl))
      (fun _ _ => rfl) (fun _ => rfl) rfl nofun nofun (not_fails_of_callIf nofun nofun)
  case cma =>
    cases h
    exact .plain rfl rfl rfl rfl rfl rfl rfl
      (regs_of (R := [.a]) (by intro n; cases n <;> first | exact .inl (by decide) | exact .inr rfl))
      (fun _ _ => rfl) (fun _ => rfl) rfl nofun nofun (not_fails_of_callIf nofun nofun)
  case sphl =>
    cases h
    exact .plain rfl rfl rfl rfl rfl rfl rfl
      (regs_of (R := [.sp]) (by intro n; cases n <;> first | exact .inl (by decide) | exact .inr rfl))
      (fun _ _ => rfl) (fun _ => rfl) rfl nofun nofun (not_fails_of_callIf nofun nofun)
  case jump | pchl | noOp =>
    cases h
    exact .plain rfl rfl rfl rfl rfl rfl rfl (fun _ _ => rfl) (fun _ _ => rfl) (fun _ => rfl) rfl nofun nofun
      (not_fails_of_callIf nofun nofun)

end Sys2Proof.Machine
end

