-- ==== Sys2Proof/Laws/Decode.lean ====
section
/-! SUPPORT. Everything the decoder can do, said once: the lengths of the table, what a built instruction encodes to, and when decoding
refuses. -/

namespace Sys2Proof.Machine

/-- Every opcode's length is 1, 2 or 3 (30_encoding.md R87). -/
theorem len_cases (op : Byte) : (rowOf op).len = 1 ∨ (rowOf op).len = 2 ∨ (rowOf op).len = 3 := by revert op; decide

/-- The instruction an opcode builds has that opcode. -/
@[simp] theorem opcodeOf_decodeOp (op b1 b2 : Byte) : opcodeOf (decodeOp op b1 b2) = op := by
  suffices h : ∀ n : Fin 256, opcodeOf (decodeOp (BitVec.ofFin n) b1 b2) = BitVec.ofFin n from h op.toFin
  rintro ⟨n, h⟩
  interval_cases n <;> rfl

/-- `encode` undoes `decodeOp` at opcode `n`, for two given operand bytes. -/
abbrev BuildsItself (n : Nat) (b1 b2 : Byte) : Prop :=
  encode (decodeOp (BitVec.ofNat 8 n) b1 b2) =
    BitVec.ofNat 8 n :: (match (rowOf (BitVec.ofNat 8 n)).len with | 1 => [] | 2 => [b1] | _ => [b1, b2])

theorem buildsItself_0 (n : Nat) (b1 b2 : Byte) (_ : 0 ≤ n) (_ : n < 64) : BuildsItself n b1 b2 := by
  interval_cases n <;> first
    | rfl
    | (show [_, lo (joinBytes b2 b1), hi (joinBytes b2 b1)] = _; rw [lo_joinBytes, hi_joinBytes]; rfl)

theorem buildsItself_1 (n : Nat) (b1 b2 : Byte) (_ : 64 ≤ n) (_ : n < 128) : BuildsItself n b1 b2 := by
  interval_cases n <;> rfl

theorem buildsItself_2 (n : Nat) (b1 b2 : Byte) (_ : 128 ≤ n) (_ : n < 192) : BuildsItself n b1 b2 := by
  interval_cases n <;> rfl

theorem buildsItself_3 (n : Nat) (b1 b2 : Byte) (_ : 192 ≤ n) (_ : n < 256) : BuildsItself n b1 b2 := by
  interval_cases n <;> first
    | rfl
    | (show [_, lo (joinBytes b2 b1), hi (joinBytes b2 b1)] = _; rw [lo_joinBytes, hi_joinBytes]; rfl)

/-- The instruction an opcode builds has that opcode and the operand bytes it was built from. -/
theorem encode_decodeOp (op b1 b2 : Byte) :
    encode (decodeOp op b1 b2) = op :: (match (rowOf op).len with | 1 => [] | 2 => [b1] | _ => [b1, b2]) := by
  have h : BuildsItself op.toNat b1 b2 := by
    have := op.isLt
    by_cases h1 : op.toNat < 64
    · exact buildsItself_0 _ _ _ (by omega) h1
    · by_cases h2 : op.toNat < 128
      · exact buildsItself_1 _ _ _ (by omega) h2
      · by_cases h3 : op.toNat < 192
        · exact buildsItself_2 _ _ _ (by omega) h3
        · exact buildsItself_3 _ _ _ (by omega) (by omega)
  simpa only [BuildsItself, BitVec.ofNat_toNat, BitVec.setWidth_eq] using h

/-- A decoded instruction takes at least one byte and leaves the rest. -/
theorem decode_length {bs rest : List Byte} {i : Instr} (h : decode bs = .ok (i, rest)) : rest.length < bs.length := by
  unfold decode at h
  split at h
  · cases h
  · split at h <;> cases h <;> simp only [List.length_cons] <;> omega

/-- Decoding refuses exactly an empty stream and one that lacks an operand byte. -/
theorem decode_error_iff {bs : List Byte} :
    (∃ e, decode bs = .error e) ↔ bs = [] ∨ ∃ op rest, bs = op :: rest ∧ rest.length + 1 < (rowOf op).len := by
  cases bs with
  | nil => simp [decode]
  | cons op rest =>
    rcases len_cases op with h | h | h <;> rcases rest with _ | ⟨b1, _ | ⟨b2, rest⟩⟩ <;> simp [decode, h]

end Sys2Proof.Machine
end

