-- ==== Sys2Proof/Laws/PerInstr.lean ====
section
/-! SUPPORT. Statements about every instruction as syntax, one lemma per constructor. -/

/-- The length of an instruction is the same in its format (30_encoding.md R76), in the opcode table (R75) and in the bytes the
encoder writes. -/
def Sys2Proof.Laws.LengthAgrees.Statement (i : Sys2Proof.Instr) : Prop :=
  Sys2Proof.lenOf i = i.format.bytes ∧ (Sys2Proof.encode i).length = i.format.bytes

theorem Sys2Proof.Laws.LengthAgrees.nop : Sys2Proof.Laws.LengthAgrees.Statement .nop := ⟨rfl, rfl⟩
theorem Sys2Proof.Laws.LengthAgrees.lxiB (v : Sys2Proof.Word) : Sys2Proof.Laws.LengthAgrees.Statement (.lxiB v) := ⟨rfl, rfl⟩
theorem Sys2Proof.Laws.LengthAgrees.staxB : Sys2Proof.Laws.LengthAgrees.Statement .staxB := ⟨rfl, rfl⟩
theorem Sys2Proof.Laws.LengthAgrees.inxB : Sys2Proof.Laws.LengthAgrees.Statement .inxB := ⟨rfl, rfl⟩
theorem Sys2Proof.Laws.LengthAgrees.inrB : Sys2Proof.Laws.LengthAgrees.Statement .inrB := ⟨rfl, rfl⟩
theorem Sys2Proof.Laws.LengthAgrees.dcrB : Sys2Proof.Laws.LengthAgrees.Statement .dcrB := ⟨rfl, rfl⟩
theorem Sys2Proof.Laws.LengthAgrees.mviB (v : Sys2Proof.Byte) : Sys2Proof.Laws.LengthAgrees.Statement (.mviB v) := ⟨rfl, rfl⟩
theorem Sys2Proof.Laws.LengthAgrees.rlc : Sys2Proof.Laws.LengthAgrees.Statement .rlc := ⟨rfl, rfl⟩
theorem Sys2Proof.Laws.LengthAgrees.nopAlias08 : Sys2Proof.Laws.LengthAgrees.Statement .nopAlias08 := ⟨rfl, rfl⟩
theorem Sys2Proof.Laws.LengthAgrees.dadB : Sys2Proof.Laws.LengthAgrees.Statement .dadB := ⟨rfl, rfl⟩
theorem Sys2Proof.Laws.LengthAgrees.ldaxB : Sys2Proof.Laws.LengthAgrees.Statement .ldaxB := ⟨rfl, rfl⟩
theorem Sys2Proof.Laws.LengthAgrees.dcxB : Sys2Proof.Laws.LengthAgrees.Statement .dcxB := ⟨rfl, rfl⟩
theorem Sys2Proof.Laws.LengthAgrees.inrC : Sys2Proof.Laws.LengthAgrees.Statement .inrC := ⟨rfl, rfl⟩
theorem Sys2Proof.Laws.LengthAgrees.dcrC : Sys2Proof.Laws.LengthAgrees.Statement .dcrC := ⟨rfl, rfl⟩
theorem Sys2Proof.Laws.LengthAgrees.mviC (v : Sys2Proof.Byte) : Sys2Proof.Laws.LengthAgrees.Statement (.mviC v) := ⟨rfl, rfl⟩
theorem Sys2Proof.Laws.LengthAgrees.rrc : Sys2Proof.Laws.LengthAgrees.Statement .rrc := ⟨rfl, rfl⟩
theorem Sys2Proof.Laws.LengthAgrees.nopAlias10 : Sys2Proof.Laws.LengthAgrees.Statement .nopAlias10 := ⟨rfl, rfl⟩
theorem Sys2Proof.Laws.LengthAgrees.lxiD (v : Sys2Proof.Word) : Sys2Proof.Laws.LengthAgrees.Statement (.lxiD v) := ⟨rfl, rfl⟩
theorem Sys2Proof.Laws.LengthAgrees.staxD : Sys2Proof.Laws.LengthAgrees.Statement .staxD := ⟨rfl, rfl⟩
theorem Sys2Proof.Laws.LengthAgrees.inxD : Sys2Proof.Laws.LengthAgrees.Statement .inxD := ⟨rfl, rfl⟩
theorem Sys2Proof.Laws.LengthAgrees.inrD : Sys2Proof.Laws.LengthAgrees.Statement .inrD := ⟨rfl, rfl⟩
theorem Sys2Proof.Laws.LengthAgrees.dcrD : Sys2Proof.Laws.LengthAgrees.Statement .dcrD := ⟨rfl, rfl⟩
theorem Sys2Proof.Laws.LengthAgrees.mviD (v : Sys2Proof.Byte) : Sys2Proof.Laws.LengthAgrees.Statement (.mviD v) := ⟨rfl, rfl⟩
theorem Sys2Proof.Laws.LengthAgrees.ral : Sys2Proof.Laws.LengthAgrees.Statement .ral := ⟨rfl, rfl⟩
theorem Sys2Proof.Laws.LengthAgrees.nopAlias18 : Sys2Proof.Laws.LengthAgrees.Statement .nopAlias18 := ⟨rfl, rfl⟩
theorem Sys2Proof.Laws.LengthAgrees.dadD : Sys2Proof.Laws.LengthAgrees.Statement .dadD := ⟨rfl, rfl⟩
theorem Sys2Proof.Laws.LengthAgrees.ldaxD : Sys2Proof.Laws.LengthAgrees.Statement .ldaxD := ⟨rfl, rfl⟩
theorem Sys2Proof.Laws.LengthAgrees.dcxD : Sys2Proof.Laws.LengthAgrees.Statement .dcxD := ⟨rfl, rfl⟩
theorem Sys2Proof.Laws.LengthAgrees.inrE : Sys2Proof.Laws.LengthAgrees.Statement .inrE := ⟨rfl, rfl⟩
theorem Sys2Proof.Laws.LengthAgrees.dcrE : Sys2Proof.Laws.LengthAgrees.Statement .dcrE := ⟨rfl, rfl⟩
theorem Sys2Proof.Laws.LengthAgrees.mviE (v : Sys2Proof.Byte) : Sys2Proof.Laws.LengthAgrees.Statement (.mviE v) := ⟨rfl, rfl⟩
theorem Sys2Proof.Laws.LengthAgrees.rar : Sys2Proof.Laws.LengthAgrees.Statement .rar := ⟨rfl, rfl⟩
theorem Sys2Proof.Laws.LengthAgrees.nopAlias20 : Sys2Proof.Laws.LengthAgrees.Statement .nopAlias20 := ⟨rfl, rfl⟩
theorem Sys2Proof.Laws.LengthAgrees.lxiH (v : Sys2Proof.Word) : Sys2Proof.Laws.LengthAgrees.Statement (.lxiH v) := ⟨rfl, rfl⟩
theorem Sys2Proof.Laws.LengthAgrees.shld (v : Sys2Proof.Word) : Sys2Proof.Laws.LengthAgrees.Statement (.shld v) := ⟨rfl, rfl⟩
theorem Sys2Proof.Laws.LengthAgrees.inxH : Sys2Proof.Laws.LengthAgrees.Statement .inxH := ⟨rfl, rfl⟩
theorem Sys2Proof.Laws.LengthAgrees.inrH : Sys2Proof.Laws.LengthAgrees.Statement .inrH := ⟨rfl, rfl⟩
theorem Sys2Proof.Laws.LengthAgrees.dcrH : Sys2Proof.Laws.LengthAgrees.Statement .dcrH := ⟨rfl, rfl⟩
theorem Sys2Proof.Laws.LengthAgrees.mviH (v : Sys2Proof.Byte) : Sys2Proof.Laws.LengthAgrees.Statement (.mviH v) := ⟨rfl, rfl⟩
theorem Sys2Proof.Laws.LengthAgrees.daa : Sys2Proof.Laws.LengthAgrees.Statement .daa := ⟨rfl, rfl⟩
theorem Sys2Proof.Laws.LengthAgrees.nopAlias28 : Sys2Proof.Laws.LengthAgrees.Statement .nopAlias28 := ⟨rfl, rfl⟩
theorem Sys2Proof.Laws.LengthAgrees.dadH : Sys2Proof.Laws.LengthAgrees.Statement .dadH := ⟨rfl, rfl⟩
theorem Sys2Proof.Laws.LengthAgrees.lhld (v : Sys2Proof.Word) : Sys2Proof.Laws.LengthAgrees.Statement (.lhld v) := ⟨rfl, rfl⟩
theorem Sys2Proof.Laws.LengthAgrees.dcxH : Sys2Proof.Laws.LengthAgrees.Statement .dcxH := ⟨rfl, rfl⟩
theorem Sys2Proof.Laws.LengthAgrees.inrL : Sys2Proof.Laws.LengthAgrees.Statement .inrL := ⟨rfl, rfl⟩
theorem Sys2Proof.Laws.LengthAgrees.dcrL : Sys2Proof.Laws.LengthAgrees.Statement .dcrL := ⟨rfl, rfl⟩
theorem Sys2Proof.Laws.LengthAgrees.mviL (v : Sys2Proof.Byte) : Sys2Proof.Laws.LengthAgrees.Statement (.mviL v) := ⟨rfl, rfl⟩
theorem Sys2Proof.Laws.LengthAgrees.cma : Sys2Proof.Laws.LengthAgrees.Statement .cma := ⟨rfl, rfl⟩
theorem Sys2Proof.Laws.LengthAgrees.nopAlias30 : Sys2Proof.Laws.LengthAgrees.Statement .nopAlias30 := ⟨rfl, rfl⟩
theorem Sys2Proof.Laws.LengthAgrees.lxiSp (v : Sys2Proof.Word) : Sys2Proof.Laws.LengthAgrees.Statement (.lxiSp v) := ⟨rfl, rfl⟩
theorem Sys2Proof.Laws.LengthAgrees.sta (v : Sys2Proof.Word) : Sys2Proof.Laws.LengthAgrees.Statement (.sta v) := ⟨rfl, rfl⟩
theorem Sys2Proof.Laws.LengthAgrees.inxSp : Sys2Proof.Laws.LengthAgrees.Statement .inxSp := ⟨rfl, rfl⟩
theorem Sys2Proof.Laws.LengthAgrees.inrM : Sys2Proof.Laws.LengthAgrees.Statement .inrM := ⟨rfl, rfl⟩
theorem Sys2Proof.Laws.LengthAgrees.dcrM : Sys2Proof.Laws.LengthAgrees.Statement .dcrM := ⟨rfl, rfl⟩
theorem Sys2Proof.Laws.LengthAgrees.mviM (v : Sys2Proof.Byte) : Sys2Proof.Laws.LengthAgrees.Statement (.mviM v) := ⟨rfl, rfl⟩
theorem Sys2Proof.Laws.LengthAgrees.stc : Sys2Proof.Laws.LengthAgrees.Statement .stc := ⟨rfl, rfl⟩
theorem Sys2Proof.Laws.LengthAgrees.nopAlias38 : Sys2Proof.Laws.LengthAgrees.Statement .nopAlias38 := ⟨rfl, rfl⟩
theorem Sys2Proof.Laws.LengthAgrees.dadSp : Sys2Proof.Laws.LengthAgrees.Statement .dadSp := ⟨rfl, rfl⟩
theorem Sys2Proof.Laws.LengthAgrees.lda (v : Sys2Proof.Word) : Sys2Proof.Laws.LengthAgrees.Statement (.lda v) := ⟨rfl, rfl⟩
theorem Sys2Proof.Laws.LengthAgrees.dcxSp : Sys2Proof.Laws.LengthAgrees.Statement .dcxSp := ⟨rfl, rfl⟩
theorem Sys2Proof.Laws.LengthAgrees.inrA : Sys2Proof.Laws.LengthAgrees.Statement .inrA := ⟨rfl, rfl⟩
theorem Sys2Proof.Laws.LengthAgrees.dcrA : Sys2Proof.Laws.LengthAgrees.Statement .dcrA := ⟨rfl, rfl⟩
theorem Sys2Proof.Laws.LengthAgrees.mviA (v : Sys2Proof.Byte) : Sys2Proof.Laws.LengthAgrees.Statement (.mviA v) := ⟨rfl, rfl⟩
theorem Sys2Proof.Laws.LengthAgrees.cmc : Sys2Proof.Laws.LengthAgrees.Statement .cmc := ⟨rfl, rfl⟩
theorem Sys2Proof.Laws.LengthAgrees.movBB : Sys2Proof.Laws.LengthAgrees.Statement .movBB := ⟨rfl, rfl⟩
theorem Sys2Proof.Laws.LengthAgrees.movBC : Sys2Proof.Laws.LengthAgrees.Statement .movBC := ⟨rfl, rfl⟩
theorem Sys2Proof.Laws.LengthAgrees.movBD : Sys2Proof.Laws.LengthAgrees.Statement .movBD := ⟨rfl, rfl⟩
theorem Sys2Proof.Laws.LengthAgrees.movBE : Sys2Proof.Laws.LengthAgrees.Statement .movBE := ⟨rfl, rfl⟩
theorem Sys2Proof.Laws.LengthAgrees.movBH : Sys2Proof.Laws.LengthAgrees.Statement .movBH := ⟨rfl, rfl⟩
theorem Sys2Proof.Laws.LengthAgrees.movBL : Sys2Proof.Laws.LengthAgrees.Statement .movBL := ⟨rfl, rfl⟩
theorem Sys2Proof.Laws.LengthAgrees.movBM : Sys2Proof.Laws.LengthAgrees.Statement .movBM := ⟨rfl, rfl⟩
theorem Sys2Proof.Laws.LengthAgrees.movBA : Sys2Proof.Laws.LengthAgrees.Statement .movBA := ⟨rfl, rfl⟩
theorem Sys2Proof.Laws.LengthAgrees.movCB : Sys2Proof.Laws.LengthAgrees.Statement .movCB := ⟨rfl, rfl⟩
theorem Sys2Proof.Laws.LengthAgrees.movCC : Sys2Proof.Laws.LengthAgrees.Statement .movCC := ⟨rfl, rfl⟩
theorem Sys2Proof.Laws.LengthAgrees.movCD : Sys2Proof.Laws.LengthAgrees.Statement .movCD := ⟨rfl, rfl⟩
theorem Sys2Proof.Laws.LengthAgrees.movCE : Sys2Proof.Laws.LengthAgrees.Statement .movCE := ⟨rfl, rfl⟩
theorem Sys2Proof.Laws.LengthAgrees.movCH : Sys2Proof.Laws.LengthAgrees.Statement .movCH := ⟨rfl, rfl⟩
theorem Sys2Proof.Laws.LengthAgrees.movCL : Sys2Proof.Laws.LengthAgrees.Statement .movCL := ⟨rfl, rfl⟩
theorem Sys2Proof.Laws.LengthAgrees.movCM : Sys2Proof.Laws.LengthAgrees.Statement .movCM := ⟨rfl, rfl⟩
theorem Sys2Proof.Laws.LengthAgrees.movCA : Sys2Proof.Laws.LengthAgrees.Statement .movCA := ⟨rfl, rfl⟩
theorem Sys2Proof.Laws.LengthAgrees.movDB : Sys2Proof.Laws.LengthAgrees.Statement .movDB := ⟨rfl, rfl⟩
theorem Sys2Proof.Laws.LengthAgrees.movDC : Sys2Proof.Laws.LengthAgrees.Statement .movDC := ⟨rfl, rfl⟩
theorem Sys2Proof.Laws.LengthAgrees.movDD : Sys2Proof.Laws.LengthAgrees.Statement .movDD := ⟨rfl, rfl⟩
theorem Sys2Proof.Laws.LengthAgrees.movDE : Sys2Proof.Laws.LengthAgrees.Statement .movDE := ⟨rfl, rfl⟩
theorem Sys2Proof.Laws.LengthAgrees.movDH : Sys2Proof.Laws.LengthAgrees.Statement .movDH := ⟨rfl, rfl⟩
theorem Sys2Proof.Laws.LengthAgrees.movDL : Sys2Proof.Laws.LengthAgrees.Statement .movDL := ⟨rfl, rfl⟩
theorem Sys2Proof.Laws.LengthAgrees.movDM : Sys2Proof.Laws.LengthAgrees.Statement .movDM := ⟨rfl, rfl⟩
theorem Sys2Proof.Laws.LengthAgrees.movDA : Sys2Proof.Laws.LengthAgrees.Statement .movDA := ⟨rfl, rfl⟩
theorem Sys2Proof.Laws.LengthAgrees.movEB : Sys2Proof.Laws.LengthAgrees.Statement .movEB := ⟨rfl, rfl⟩
theorem Sys2Proof.Laws.LengthAgrees.movEC : Sys2Proof.Laws.LengthAgrees.Statement .movEC := ⟨rfl, rfl⟩
theorem Sys2Proof.Laws.LengthAgrees.movED : Sys2Proof.Laws.LengthAgrees.Statement .movED := ⟨rfl, rfl⟩
theorem Sys2Proof.Laws.LengthAgrees.movEE : Sys2Proof.Laws.LengthAgrees.Statement .movEE := ⟨rfl, rfl⟩
theorem Sys2Proof.Laws.LengthAgrees.movEH : Sys2Proof.Laws.LengthAgrees.Statement .movEH := ⟨rfl, rfl⟩
theorem Sys2Proof.Laws.LengthAgrees.movEL : Sys2Proof.Laws.LengthAgrees.Statement .movEL := ⟨rfl, rfl⟩
theorem Sys2Proof.Laws.LengthAgrees.movEM : Sys2Proof.Laws.LengthAgrees.Statement .movEM := ⟨rfl, rfl⟩
theorem Sys2Proof.Laws.LengthAgrees.movEA : Sys2Proof.Laws.LengthAgrees.Statement .movEA := ⟨rfl, rfl⟩
theorem Sys2Proof.Laws.LengthAgrees.movHB : Sys2Proof.Laws.LengthAgrees.Statement .movHB := ⟨rfl, rfl⟩
theorem Sys2Proof.Laws.LengthAgrees.movHC : Sys2Proof.Laws.LengthAgrees.Statement .movHC := ⟨rfl, rfl⟩
theorem Sys2Proof.Laws.LengthAgrees.movHD : Sys2Proof.Laws.LengthAgrees.Statement .movHD := ⟨rfl, rfl⟩
theorem Sys2Proof.Laws.LengthAgrees.movHE : Sys2Proof.Laws.LengthAgrees.Statement .movHE := ⟨rfl, rfl⟩
theorem Sys2Proof.Laws.LengthAgrees.movHH : Sys2Proof.Laws.LengthAgrees.Statement .movHH := ⟨rfl, rfl⟩
theorem Sys2Proof.Laws.LengthAgrees.movHL : Sys2Proof.Laws.LengthAgrees.Statement .movHL := ⟨rfl, rfl⟩
theorem Sys2Proof.Laws.LengthAgrees.movHM : Sys2Proof.Laws.LengthAgrees.Statement .movHM := ⟨rfl, rfl⟩
theorem Sys2Proof.Laws.LengthAgrees.movHA : Sys2Proof.Laws.LengthAgrees.Statement .movHA := ⟨rfl, rfl⟩
theorem Sys2Proof.Laws.LengthAgrees.movLB : Sys2Proof.Laws.LengthAgrees.Statement .movLB := ⟨rfl, rfl⟩
theorem Sys2Proof.Laws.LengthAgrees.movLC : Sys2Proof.Laws.LengthAgrees.Statement .movLC := ⟨rfl, rfl⟩
theorem Sys2Proof.Laws.LengthAgrees.movLD : Sys2Proof.Laws.LengthAgrees.Statement .movLD := ⟨rfl, rfl⟩
theorem Sys2Proof.Laws.LengthAgrees.movLE : Sys2Proof.Laws.LengthAgrees.Statement .movLE := ⟨rfl, rfl⟩
theorem Sys2Proof.Laws.LengthAgrees.movLH : Sys2Proof.Laws.LengthAgrees.Statement .movLH := ⟨rfl, rfl⟩
theorem Sys2Proof.Laws.LengthAgrees.movLL : Sys2Proof.Laws.LengthAgrees.Statement .movLL := ⟨rfl, rfl⟩
theorem Sys2Proof.Laws.LengthAgrees.movLM : Sys2Proof.Laws.LengthAgrees.Statement .movLM := ⟨rfl, rfl⟩
theorem Sys2Proof.Laws.LengthAgrees.movLA : Sys2Proof.Laws.LengthAgrees.Statement .movLA := ⟨rfl, rfl⟩
theorem Sys2Proof.Laws.LengthAgrees.movMB : Sys2Proof.Laws.LengthAgrees.Statement .movMB := ⟨rfl, rfl⟩
theorem Sys2Proof.Laws.LengthAgrees.movMC : Sys2Proof.Laws.LengthAgrees.Statement .movMC := ⟨rfl, rfl⟩
theorem Sys2Proof.Laws.LengthAgrees.movMD : Sys2Proof.Laws.LengthAgrees.Statement .movMD := ⟨rfl, rfl⟩
theorem Sys2Proof.Laws.LengthAgrees.movME : Sys2Proof.Laws.LengthAgrees.Statement .movME := ⟨rfl, rfl⟩
theorem Sys2Proof.Laws.LengthAgrees.movMH : Sys2Proof.Laws.LengthAgrees.Statement .movMH := ⟨rfl, rfl⟩
theorem Sys2Proof.Laws.LengthAgrees.movML : Sys2Proof.Laws.LengthAgrees.Statement .movML := ⟨rfl, rfl⟩
theorem Sys2Proof.Laws.LengthAgrees.hlt : Sys2Proof.Laws.LengthAgrees.Statement .hlt := ⟨rfl, rfl⟩
theorem Sys2Proof.Laws.LengthAgrees.movMA : Sys2Proof.Laws.LengthAgrees.Statement .movMA := ⟨rfl, rfl⟩
theorem Sys2Proof.Laws.LengthAgrees.movAB : Sys2Proof.Laws.LengthAgrees.Statement .movAB := ⟨rfl, rfl⟩
theorem Sys2Proof.Laws.LengthAgrees.movAC : Sys2Proof.Laws.LengthAgrees.Statement .movAC := ⟨rfl, rfl⟩
theorem Sys2Proof.Laws.LengthAgrees.movAD : Sys2Proof.Laws.LengthAgrees.Statement .movAD := ⟨rfl, rfl⟩
theorem Sys2Proof.Laws.LengthAgrees.movAE : Sys2Proof.Laws.LengthAgrees.Statement .movAE := ⟨rfl, rfl⟩
theorem Sys2Proof.Laws.LengthAgrees.movAH : Sys2Proof.Laws.LengthAgrees.Statement .movAH := ⟨rfl, rfl⟩
theorem Sys2Proof.Laws.LengthAgrees.movAL : Sys2Proof.Laws.LengthAgrees.Statement .movAL := ⟨rfl, rfl⟩
theorem Sys2Proof.Laws.LengthAgrees.movAM : Sys2Proof.Laws.LengthAgrees.Statement .movAM := ⟨rfl, rfl⟩
theorem Sys2Proof.Laws.LengthAgrees.movAA : Sys2Proof.Laws.LengthAgrees.Statement .movAA := ⟨rfl, rfl⟩
theorem Sys2Proof.Laws.LengthAgrees.addB : Sys2Proof.Laws.LengthAgrees.Statement .addB := ⟨rfl, rfl⟩
theorem Sys2Proof.Laws.LengthAgrees.addC : Sys2Proof.Laws.LengthAgrees.Statement .addC := ⟨rfl, rfl⟩
theorem Sys2Proof.Laws.LengthAgrees.addD : Sys2Proof.Laws.LengthAgrees.Statement .addD := ⟨rfl, rfl⟩
theorem Sys2Proof.Laws.LengthAgrees.addE : Sys2Proof.Laws.LengthAgrees.Statement .addE := ⟨rfl, rfl⟩
theorem Sys2Proof.Laws.LengthAgrees.addH : Sys2Proof.Laws.LengthAgrees.Statement .addH := ⟨rfl, rfl⟩
theorem Sys2Proof.Laws.LengthAgrees.addL : Sys2Proof.Laws.LengthAgrees.Statement .addL := ⟨rfl, rfl⟩
theorem Sys2Proof.Laws.LengthAgrees.addM : Sys2Proof.Laws.LengthAgrees.Statement .addM := ⟨rfl, rfl⟩
theorem Sys2Proof.Laws.LengthAgrees.addA : Sys2Proof.Laws.LengthAgrees.Statement .addA := ⟨rfl, rfl⟩
theorem Sys2Proof.Laws.LengthAgrees.adcB : Sys2Proof.Laws.LengthAgrees.Statement .adcB := ⟨rfl, rfl⟩
theorem Sys2Proof.Laws.LengthAgrees.adcC : Sys2Proof.Laws.LengthAgrees.Statement .adcC := ⟨rfl, rfl⟩
theorem Sys2Proof.Laws.LengthAgrees.adcD : Sys2Proof.Laws.LengthAgrees.Statement .adcD := ⟨rfl, rfl⟩
theorem Sys2Proof.Laws.LengthAgrees.adcE : Sys2Proof.Laws.LengthAgrees.Statement .adcE := ⟨rfl, rfl⟩
theorem Sys2Proof.Laws.LengthAgrees.adcH : Sys2Proof.Laws.LengthAgrees.Statement .adcH := ⟨rfl, rfl⟩
theorem Sys2Proof.Laws.LengthAgrees.adcL : Sys2Proof.Laws.LengthAgrees.Statement .adcL := ⟨rfl, rfl⟩
theorem Sys2Proof.Laws.LengthAgrees.adcM : Sys2Proof.Laws.LengthAgrees.Statement .adcM := ⟨rfl, rfl⟩
theorem Sys2Proof.Laws.LengthAgrees.adcA : Sys2Proof.Laws.LengthAgrees.Statement .adcA := ⟨rfl, rfl⟩
theorem Sys2Proof.Laws.LengthAgrees.subB : Sys2Proof.Laws.LengthAgrees.Statement .subB := ⟨rfl, rfl⟩
theorem Sys2Proof.Laws.LengthAgrees.subC : Sys2Proof.Laws.LengthAgrees.Statement .subC := ⟨rfl, rfl⟩
theorem Sys2Proof.Laws.LengthAgrees.subD : Sys2Proof.Laws.LengthAgrees.Statement .subD := ⟨rfl, rfl⟩
theorem Sys2Proof.Laws.LengthAgrees.subE : Sys2Proof.Laws.LengthAgrees.Statement .subE := ⟨rfl, rfl⟩
theorem Sys2Proof.Laws.LengthAgrees.subH : Sys2Proof.Laws.LengthAgrees.Statement .subH := ⟨rfl, rfl⟩
theorem Sys2Proof.Laws.LengthAgrees.subL : Sys2Proof.Laws.LengthAgrees.Statement .subL := ⟨rfl, rfl⟩
theorem Sys2Proof.Laws.LengthAgrees.subM : Sys2Proof.Laws.LengthAgrees.Statement .subM := ⟨rfl, rfl⟩
theorem Sys2Proof.Laws.LengthAgrees.subA : Sys2Proof.Laws.LengthAgrees.Statement .subA := ⟨rfl, rfl⟩
theorem Sys2Proof.Laws.LengthAgrees.sbbB : Sys2Proof.Laws.LengthAgrees.Statement .sbbB := ⟨rfl, rfl⟩
theorem Sys2Proof.Laws.LengthAgrees.sbbC : Sys2Proof.Laws.LengthAgrees.Statement .sbbC := ⟨rfl, rfl⟩
theorem Sys2Proof.Laws.LengthAgrees.sbbD : Sys2Proof.Laws.LengthAgrees.Statement .sbbD := ⟨rfl, rfl⟩
theorem Sys2Proof.Laws.LengthAgrees.sbbE : Sys2Proof.Laws.LengthAgrees.Statement .sbbE := ⟨rfl, rfl⟩
theorem Sys2Proof.Laws.LengthAgrees.sbbH : Sys2Proof.Laws.LengthAgrees.Statement .sbbH := ⟨rfl, rfl⟩
theorem Sys2Proof.Laws.LengthAgrees.sbbL : Sys2Proof.Laws.LengthAgrees.Statement .sbbL := ⟨rfl, rfl⟩
theorem Sys2Proof.Laws.LengthAgrees.sbbM : Sys2Proof.Laws.LengthAgrees.Statement .sbbM := ⟨rfl, rfl⟩
theorem Sys2Proof.Laws.LengthAgrees.sbbA : Sys2Proof.Laws.LengthAgrees.Statement .sbbA := ⟨rfl, rfl⟩
theorem Sys2Proof.Laws.LengthAgrees.anaB : Sys2Proof.Laws.LengthAgrees.Statement .anaB := ⟨rfl, rfl⟩
theorem Sys2Proof.Laws.LengthAgrees.anaC : Sys2Proof.Laws.LengthAgrees.Statement .anaC := ⟨rfl, rfl⟩
theorem Sys2Proof.Laws.LengthAgrees.anaD : Sys2Proof.Laws.LengthAgrees.Statement .anaD := ⟨rfl, rfl⟩
theorem Sys2Proof.Laws.LengthAgrees.anaE : Sys2Proof.Laws.LengthAgrees.Statement .anaE := ⟨rfl, rfl⟩
theorem Sys2Proof.Laws.LengthAgrees.anaH : Sys2Proof.Laws.LengthAgrees.Statement .anaH := ⟨rfl, rfl⟩
theorem Sys2Proof.Laws.LengthAgrees.anaL : Sys2Proof.Laws.LengthAgrees.Statement .anaL := ⟨rfl, rfl⟩
theorem Sys2Proof.Laws.LengthAgrees.anaM : Sys2Proof.Laws.LengthAgrees.Statement .anaM := ⟨rfl, rfl⟩
theorem Sys2Proof.Laws.LengthAgrees.anaA : Sys2Proof.Laws.LengthAgrees.Statement .anaA := ⟨rfl, rfl⟩
theorem Sys2Proof.Laws.LengthAgrees.xraB : Sys2Proof.Laws.LengthAgrees.Statement .xraB := ⟨rfl, rfl⟩
theorem Sys2Proof.Laws.LengthAgrees.xraC : Sys2Proof.Laws.LengthAgrees.Statement .xraC := ⟨rfl, rfl⟩
theorem Sys2Proof.Laws.LengthAgrees.xraD : Sys2Proof.Laws.LengthAgrees.Statement .xraD := ⟨rfl, rfl⟩
theorem Sys2Proof.Laws.LengthAgrees.xraE : Sys2Proof.Laws.LengthAgrees.Statement .xraE := ⟨rfl, rfl⟩
theorem Sys2Proof.Laws.LengthAgrees.xraH : Sys2Proof.Laws.LengthAgrees.Statement .xraH := ⟨rfl, rfl⟩
theorem Sys2Proof.Laws.LengthAgrees.xraL : Sys2Proof.Laws.LengthAgrees.Statement .xraL := ⟨rfl, rfl⟩
theorem Sys2Proof.Laws.LengthAgrees.xraM : Sys2Proof.Laws.LengthAgrees.Statement .xraM := ⟨rfl, rfl⟩
theorem Sys2Proof.Laws.LengthAgrees.xraA : Sys2Proof.Laws.LengthAgrees.Statement .xraA := ⟨rfl, rfl⟩
theorem Sys2Proof.Laws.LengthAgrees.oraB : Sys2Proof.Laws.LengthAgrees.Statement .oraB := ⟨rfl, rfl⟩
theorem Sys2Proof.Laws.LengthAgrees.oraC : Sys2Proof.Laws.LengthAgrees.Statement .oraC := ⟨rfl, rfl⟩
theorem Sys2Proof.Laws.LengthAgrees.oraD : Sys2Proof.Laws.LengthAgrees.Statement .oraD := ⟨rfl, rfl⟩
theorem Sys2Proof.Laws.LengthAgrees.oraE : Sys2Proof.Laws.LengthAgrees.Statement .oraE := ⟨rfl, rfl⟩
theorem Sys2Proof.Laws.LengthAgrees.oraH : Sys2Proof.Laws.LengthAgrees.Statement .oraH := ⟨rfl, rfl⟩
theorem Sys2Proof.Laws.LengthAgrees.oraL : Sys2Proof.Laws.LengthAgrees.Statement .oraL := ⟨rfl, rfl⟩
theorem Sys2Proof.Laws.LengthAgrees.oraM : Sys2Proof.Laws.LengthAgrees.Statement .oraM := ⟨rfl, rfl⟩
theorem Sys2Proof.Laws.LengthAgrees.oraA : Sys2Proof.Laws.LengthAgrees.Statement .oraA := ⟨rfl, rfl⟩
theorem Sys2Proof.Laws.LengthAgrees.cmpB : Sys2Proof.Laws.LengthAgrees.Statement .cmpB := ⟨rfl, rfl⟩
theorem Sys2Proof.Laws.LengthAgrees.cmpC : Sys2Proof.Laws.LengthAgrees.Statement .cmpC := ⟨rfl, rfl⟩
theorem Sys2Proof.Laws.LengthAgrees.cmpD : Sys2Proof.Laws.LengthAgrees.Statement .cmpD := ⟨rfl, rfl⟩
theorem Sys2Proof.Laws.LengthAgrees.cmpE : Sys2Proof.Laws.LengthAgrees.Statement .cmpE := ⟨rfl, rfl⟩
theorem Sys2Proof.Laws.LengthAgrees.cmpH : Sys2Proof.Laws.LengthAgrees.Statement .cmpH := ⟨rfl, rfl⟩
theorem Sys2Proof.Laws.LengthAgrees.cmpL : Sys2Proof.Laws.LengthAgrees.Statement .cmpL := ⟨rfl, rfl⟩
theorem Sys2Proof.Laws.LengthAgrees.cmpM : Sys2Proof.Laws.LengthAgrees.Statement .cmpM := ⟨rfl, rfl⟩
theorem Sys2Proof.Laws.LengthAgrees.cmpA : Sys2Proof.Laws.LengthAgrees.Statement .cmpA := ⟨rfl, rfl⟩
theorem Sys2Proof.Laws.LengthAgrees.rnz : Sys2Proof.Laws.LengthAgrees.Statement .rnz := ⟨rfl, rfl⟩
theorem Sys2Proof.Laws.LengthAgrees.popB : Sys2Proof.Laws.LengthAgrees.Statement .popB := ⟨rfl, rfl⟩
theorem Sys2Proof.Laws.LengthAgrees.jnz (v : Sys2Proof.Word) : Sys2Proof.Laws.LengthAgrees.Statement (.jnz v) := ⟨rfl, rfl⟩
theorem Sys2Proof.Laws.LengthAgrees.jmp (v : Sys2Proof.Word) : Sys2Proof.Laws.LengthAgrees.Statement (.jmp v) := ⟨rfl, rfl⟩
theorem Sys2Proof.Laws.LengthAgrees.cnz (v : Sys2Proof.Word) : Sys2Proof.Laws.LengthAgrees.Statement (.cnz v) := ⟨rfl, rfl⟩
theorem Sys2Proof.Laws.LengthAgrees.pushB : Sys2Proof.Laws.LengthAgrees.Statement .pushB := ⟨rfl, rfl⟩
theorem Sys2Proof.Laws.LengthAgrees.adi (v : Sys2Proof.Byte) : Sys2Proof.Laws.LengthAgrees.Statement (.adi v) := ⟨rfl, rfl⟩
theorem Sys2Proof.Laws.LengthAgrees.rst0 : Sys2Proof.Laws.LengthAgrees.Statement .rst0 := ⟨rfl, rfl⟩
theorem Sys2Proof.Laws.LengthAgrees.rz : Sys2Proof.Laws.LengthAgrees.Statement .rz := ⟨rfl, rfl⟩
theorem Sys2Proof.Laws.LengthAgrees.ret : Sys2Proof.Laws.LengthAgrees.Statement .ret := ⟨rfl, rfl⟩
theorem Sys2Proof.Laws.LengthAgrees.jz (v : Sys2Proof.Word) : Sys2Proof.Laws.LengthAgrees.Statement (.jz v) := ⟨rfl, rfl⟩
theorem Sys2Proof.Laws.LengthAgrees.jmpAlias (v : Sys2Proof.Word) : Sys2Proof.Laws.LengthAgrees.Statement (.jmpAlias v) := ⟨rfl, rfl⟩
theorem Sys2Proof.Laws.LengthAgrees.cz (v : Sys2Proof.Word) : Sys2Proof.Laws.LengthAgrees.Statement (.cz v) := ⟨rfl, rfl⟩
theorem Sys2Proof.Laws.LengthAgrees.call (v : Sys2Proof.Word) : Sys2Proof.Laws.LengthAgrees.Statement (.call v) := ⟨rfl, rfl⟩
theorem Sys2Proof.Laws.LengthAgrees.aci (v : Sys2Proof.Byte) : Sys2Proof.Laws.LengthAgrees.Statement (.aci v) := ⟨rfl, rfl⟩
theorem Sys2Proof.Laws.LengthAgrees.rst1 : Sys2Proof.Laws.LengthAgrees.Statement .rst1 := ⟨rfl, rfl⟩
theorem Sys2Proof.Laws.LengthAgrees.rnc : Sys2Proof.Laws.LengthAgrees.Statement .rnc := ⟨rfl, rfl⟩
theorem Sys2Proof.Laws.LengthAgrees.popD : Sys2Proof.Laws.LengthAgrees.Statement .popD := ⟨rfl, rfl⟩
theorem Sys2Proof.Laws.LengthAgrees.jnc (v : Sys2Proof.Word) : Sys2Proof.Laws.LengthAgrees.Statement (.jnc v) := ⟨rfl, rfl⟩
theorem Sys2Proof.Laws.LengthAgrees.outp (v : Sys2Proof.Byte) : Sys2Proof.Laws.LengthAgrees.Statement (.outp v) := ⟨rfl, rfl⟩
theorem Sys2Proof.Laws.LengthAgrees.cnc (v : Sys2Proof.Word) : Sys2Proof.Laws.LengthAgrees.Statement (.cnc v) := ⟨rfl, rfl⟩
theorem Sys2Proof.Laws.LengthAgrees.pushD : Sys2Proof.Laws.LengthAgrees.Statement .pushD := ⟨rfl, rfl⟩
theorem Sys2Proof.Laws.LengthAgrees.sui (v : Sys2Proof.Byte) : Sys2Proof.Laws.LengthAgrees.Statement (.sui v) := ⟨rfl, rfl⟩
theorem Sys2Proof.Laws.LengthAgrees.rst2 : Sys2Proof.Laws.LengthAgrees.Statement .rst2 := ⟨rfl, rfl⟩
theorem Sys2Proof.Laws.LengthAgrees.rc : Sys2Proof.Laws.LengthAgrees.Statement .rc := ⟨rfl, rfl⟩
theorem Sys2Proof.Laws.LengthAgrees.retAlias : Sys2Proof.Laws.LengthAgrees.Statement .retAlias := ⟨rfl, rfl⟩
theorem Sys2Proof.Laws.LengthAgrees.jc (v : Sys2Proof.Word) : Sys2Proof.Laws.LengthAgrees.Statement (.jc v) := ⟨rfl, rfl⟩
theorem Sys2Proof.Laws.LengthAgrees.inp (v : Sys2Proof.Byte) : Sys2Proof.Laws.LengthAgrees.Statement (.inp v) := ⟨rfl, rfl⟩
theorem Sys2Proof.Laws.LengthAgrees.cc (v : Sys2Proof.Word) : Sys2Proof.Laws.LengthAgrees.Statement (.cc v) := ⟨rfl, rfl⟩
theorem Sys2Proof.Laws.LengthAgrees.callAliasDD (v : Sys2Proof.Word) : Sys2Proof.Laws.LengthAgrees.Statement (.callAliasDD v) := ⟨rfl, rfl⟩
theorem Sys2Proof.Laws.LengthAgrees.sbi (v : Sys2Proof.Byte) : Sys2Proof.Laws.LengthAgrees.Statement (.sbi v) := ⟨rfl, rfl⟩
theorem Sys2Proof.Laws.LengthAgrees.rst3 : Sys2Proof.Laws.LengthAgrees.Statement .rst3 := ⟨rfl, rfl⟩
theorem Sys2Proof.Laws.LengthAgrees.rpo : Sys2Proof.Laws.LengthAgrees.Statement .rpo := ⟨rfl, rfl⟩
theorem Sys2Proof.Laws.LengthAgrees.popH : Sys2Proof.Laws.LengthAgrees.Statement .popH := ⟨rfl, rfl⟩
theorem Sys2Proof.Laws.LengthAgrees.jpo (v : Sys2Proof.Word) : Sys2Proof.Laws.LengthAgrees.Statement (.jpo v) := ⟨rfl, rfl⟩
theorem Sys2Proof.Laws.LengthAgrees.xthl : Sys2Proof.Laws.LengthAgrees.Statement .xthl := ⟨rfl, rfl⟩
theorem Sys2Proof.Laws.LengthAgrees.cpo (v : Sys2Proof.Word) : Sys2Proof.Laws.LengthAgrees.Statement (.cpo v) := ⟨rfl, rfl⟩
theorem Sys2Proof.Laws.LengthAgrees.pushH : Sys2Proof.Laws.LengthAgrees.Statement .pushH := ⟨rfl, rfl⟩
theorem Sys2Proof.Laws.LengthAgrees.ani (v : Sys2Proof.Byte) : Sys2Proof.Laws.LengthAgrees.Statement (.ani v) := ⟨rfl, rfl⟩
theorem Sys2Proof.Laws.LengthAgrees.rst4 : Sys2Proof.Laws.LengthAgrees.Statement .rst4 := ⟨rfl, rfl⟩
theorem Sys2Proof.Laws.LengthAgrees.rpe : Sys2Proof.Laws.LengthAgrees.Statement .rpe := ⟨rfl, rfl⟩
theorem Sys2Proof.Laws.LengthAgrees.pchl : Sys2Proof.Laws.LengthAgrees.Statement .pchl := ⟨rfl, rfl⟩
theorem Sys2Proof.Laws.LengthAgrees.jpe (v : Sys2Proof.Word) : Sys2Proof.Laws.LengthAgrees.Statement (.jpe v) := ⟨rfl, rfl⟩
theorem Sys2Proof.Laws.LengthAgrees.xchg : Sys2Proof.Laws.LengthAgrees.Statement .xchg := ⟨rfl, rfl⟩
theorem Sys2Proof.Laws.LengthAgrees.cpe (v : Sys2Proof.Word) : Sys2Proof.Laws.LengthAgrees.Statement (.cpe v) := ⟨rfl, rfl⟩
theorem Sys2Proof.Laws.LengthAgrees.callAliasED (v : Sys2Proof.Word) : Sys2Proof.Laws.LengthAgrees.Statement (.callAliasED v) := ⟨rfl, rfl⟩
theorem Sys2Proof.Laws.LengthAgrees.xri (v : Sys2Proof.Byte) : Sys2Proof.Laws.LengthAgrees.Statement (.xri v) := ⟨rfl, rfl⟩
theorem Sys2Proof.Laws.LengthAgrees.rst5 : Sys2Proof.Laws.LengthAgrees.Statement .rst5 := ⟨rfl, rfl⟩
theorem Sys2Proof.Laws.LengthAgrees.rp : Sys2Proof.Laws.LengthAgrees.Statement .rp := ⟨rfl, rfl⟩
theorem Sys2Proof.Laws.LengthAgrees.popPsw : Sys2Proof.Laws.LengthAgrees.Statement .popPsw := ⟨rfl, rfl⟩
theorem Sys2Proof.Laws.LengthAgrees.jp (v : Sys2Proof.Word) : Sys2Proof.Laws.LengthAgrees.Statement (.jp v) := ⟨rfl, rfl⟩
theorem Sys2Proof.Laws.LengthAgrees.di : Sys2Proof.Laws.LengthAgrees.Statement .di := ⟨rfl, rfl⟩
theorem Sys2Proof.Laws.LengthAgrees.cp (v : Sys2Proof.Word) : Sys2Proof.Laws.LengthAgrees.Statement (.cp v) := ⟨rfl, rfl⟩
theorem Sys2Proof.Laws.LengthAgrees.pushPsw : Sys2Proof.Laws.LengthAgrees.Statement .pushPsw := ⟨rfl, rfl⟩
theorem Sys2Proof.Laws.LengthAgrees.ori (v : Sys2Proof.Byte) : Sys2Proof.Laws.LengthAgrees.Statement (.ori v) := ⟨rfl, rfl⟩
theorem Sys2Proof.Laws.LengthAgrees.rst6 : Sys2Proof.Laws.LengthAgrees.Statement .rst6 := ⟨rfl, rfl⟩
theorem Sys2Proof.Laws.LengthAgrees.rm : Sys2Proof.Laws.LengthAgrees.Statement .rm := ⟨rfl, rfl⟩
theorem Sys2Proof.Laws.LengthAgrees.sphl : Sys2Proof.Laws.LengthAgrees.Statement .sphl := ⟨rfl, rfl⟩
theorem Sys2Proof.Laws.LengthAgrees.jm (v : Sys2Proof.Word) : Sys2Proof.Laws.LengthAgrees.Statement (.jm v) := ⟨rfl, rfl⟩
theorem Sys2Proof.Laws.LengthAgrees.ei : Sys2Proof.Laws.LengthAgrees.Statement .ei := ⟨rfl, rfl⟩
theorem Sys2Proof.Laws.LengthAgrees.cm (v : Sys2Proof.Word) : Sys2Proof.Laws.LengthAgrees.Statement (.cm v) := ⟨rfl, rfl⟩
theorem Sys2Proof.Laws.LengthAgrees.callAliasFD (v : Sys2Proof.Word) : Sys2Proof.Laws.LengthAgrees.Statement (.callAliasFD v) := ⟨rfl, rfl⟩
theorem Sys2Proof.Laws.LengthAgrees.cpi (v : Sys2Proof.Byte) : Sys2Proof.Laws.LengthAgrees.Statement (.cpi v) := ⟨rfl, rfl⟩
theorem Sys2Proof.Laws.LengthAgrees.rst7 : Sys2Proof.Laws.LengthAgrees.Statement .rst7 := ⟨rfl, rfl⟩
end

