-- ==== Sys2Proof/Laws/Step.lean ====
section
/-! SUPPORT. Everything fetching an instruction and a step can do, said once. -/

namespace Sys2Proof.Machine

/-- What a fetch of byte `k` of the instruction at PC raises (60_exceptions.md R216). -/
def RaisesFetch (s : State) (k : Nat) (x : Raise) : Prop :=
  (s.params.memSize ≤ s.pc.toNat + k ∧ x = { kind := .memoryOutOfRange, detail := some (s.pc.toNat + k) }) ∨
  (s.pc.toNat + k < s.params.memSize ∧ s.pc.toNat + k = 0xFFFF ∧ x = { kind := .pcOverflow, detail := some 0xFFFF })

/-- Fetching byte `k`, when PC plus k has not wrapped: the byte, or the fault of R216. -/
theorem fetch8_cases {s : State} {k : Nat} (hk : s.pc.toNat + k ≤ 0xFFFF) :
    (s.pc.toNat + k < s.params.memSize ∧ s.pc.toNat + k < 0xFFFF ∧
      fetch8 (advancePc k s) = .ok (readMem s.mem (s.pc.toNat + k), advancePc (k + 1) s)) ∨
    ∃ x, RaisesFetch s k x ∧ fetch8 (advancePc k s) = .error x := by
  rw [fetch8_advancePc hk]
  split
  · exact .inr ⟨_, .inl ⟨by assumption, rfl⟩, rfl⟩
  · split
    · exact .inr ⟨_, .inr ⟨by omega, by assumption, rfl⟩, rfl⟩
    · exact .inl ⟨by omega, by omega, rfl⟩

/-- Everything a fetch of an instruction can do: it answers an instruction with the opcode at PC, whose bytes all lie in memory below
0xFFFF, or byte k of the instruction raises, with no opcode in the record when k is 0. -/
theorem fetchInstr_cases (s : State) :
    (∃ i, fetchInstr s = .ok i ∧ opcodeOf i = readMem s.mem s.pc.toNat ∧
      s.pc.toNat + lenOf i ≤ s.params.memSize ∧ s.pc.toNat + lenOf i ≤ 0xFFFF) ∨
    ∃ k x, k < (rowOf (readMem s.mem s.pc.toNat)).len ∧ RaisesFetch s k x ∧
      (∀ j, j < k → s.pc.toNat + j < s.params.memSize ∧ s.pc.toNat + j < 0xFFFF) ∧
      fetchInstr s = .error (if k = 0 then none else some (readMem s.mem s.pc.toNat), x) := by
  have hpc := s.pc.isLt
  have f0 := fetch8_cases (s := s) (k := 0) (by omega)
  rw [advancePc_zero] at f0
  rcases f0 with ⟨m0, p0, f0⟩ | ⟨x, hx, f0⟩
  · have done : ∀ b1 b2, s.pc.toNat + (rowOf (readMem s.mem s.pc.toNat)).len ≤ s.params.memSize →
        s.pc.toNat + (rowOf (readMem s.mem s.pc.toNat)).len ≤ 0xFFFF →
        fetchInstr s = .ok (decodeOp (readMem s.mem s.pc.toNat) b1 b2) →
        ∃ i, fetchInstr s = .ok i ∧ opcodeOf i = readMem s.mem s.pc.toNat ∧
          s.pc.toNat + lenOf i ≤ s.params.memSize ∧ s.pc.toNat + lenOf i ≤ 0xFFFF := by
      intro b1 b2 hm hp h
      exact ⟨_, h, opcodeOf_decodeOp .., by rw [lenOf, opcodeOf_decodeOp]; exact hm, by rw [lenOf, opcodeOf_decodeOp]; exact hp⟩
    simp only [Nat.add_zero, Nat.zero_add] at m0 p0 f0
    have before1 : ∀ j, j < 1 → s.pc.toNat + j < s.params.memSize ∧ s.pc.toNat + j < 0xFFFF := by
      intro j hj
      obtain rfl := Nat.lt_one_iff.1 hj
      exact ⟨m0, p0⟩
    rcases len_cases (readMem s.mem s.pc.toNat) with hl | hl | hl
    · exact .inl (done 0 0 (by omega) (by omega) (by simp only [fetchInstr, f0, hl, fetchOperands]))
    · rcases fetch8_cases (s := s) (k := 1) (by omega) with ⟨m1, p1, f1⟩ | ⟨x, hx, f1⟩
      · exact .inl (done _ 0 (by omega) (by omega) (by simp only [fetchInstr, f0, hl, fetchOperands, f1]; rfl))
      · exact .inr ⟨1, x, by omega, hx, before1,
          by simp only [fetchInstr, f0, hl, fetchOperands, f1]; rfl⟩
    · rcases fetch8_cases (s := s) (k := 1) (by omega) with ⟨m1, p1, f1⟩ | ⟨x, hx, f1⟩
      · rcases fetch8_cases (s := s) (k := 2) (by omega) with ⟨m2, p2, f2⟩ | ⟨x, hx, f2⟩
        · exact .inl (done _ _ (by omega) (by omega)
            (by simp only [fetchInstr, f0, hl, fetchOperands, f1, f2, bind, Except.bind]; rfl))
        · refine .inr ⟨2, x, by omega, hx, fun j hj => ?_, ?_⟩
          · obtain rfl | rfl : j = 0 ∨ j = 1 := by omega
            · exact ⟨m0, p0⟩
            · exact ⟨m1, p1⟩
          · simp only [fetchInstr, f0, hl, fetchOperands, f1, f2, bind, Except.bind]; rfl
      · exact .inr ⟨1, x, by omega, hx, before1,
          by simp only [fetchInstr, f0, hl, fetchOperands, f1, bind, Except.bind]; rfl⟩
  · exact .inr ⟨0, x, by rcases len_cases (readMem s.mem s.pc.toNat) with h | h | h <;> omega, hx, fun j hj => by omega,
      by simp only [fetchInstr, f0]; rfl⟩

/-- Everything a step that answers a state can do: it was Running, and it pays one owed cycle, or takes the fault of the fetch, or runs
the fetched instruction. -/
theorem step_cases {s t : State} (h : step s = .next t) :
    s.run = .running ∧
    ((0 < s.wait ∧ t = { s with wait := s.wait - 1 }) ∨
     (s.wait = 0 ∧ ∃ op x, fetchInstr s = .error (op, x) ∧ t = takeFault op x s) ∨
     (s.wait = 0 ∧ ∃ i, fetchInstr s = .ok i ∧ exec i s = .next t)) := by
  cases hr : s.run with
  | halted => simp [step, cycleStep, hr] at h
  | faulted rec => simp [step, cycleStep, hr] at h
  | running =>
    refine ⟨rfl, ?_⟩
    simp only [step, cycleStep, hr] at h
    split at h
    · cases h; exact .inl ⟨by assumption, by rw [← hr]⟩
    · have hw : s.wait = 0 := by omega
      unfold exec1 at h
      split at h
      · cases h; exact .inr (.inl ⟨hw, _, _, by assumption, rfl⟩)
      · exact .inr (.inr ⟨hw, _, by assumption, h⟩)

end Sys2Proof.Machine
end

