-- ==== Sys2Proof/Tests/Slice0.lean ====
section
/-! SUPPORT. Tests by named theorems: every opcode's word written out from 30_encoding.md R82, what the checks of WellFormed refuse,
the worked vectors of 95_test_vectors.md, and a concrete state for the hypotheses of every statement. -/

namespace Sys2Proof.Tests

open Sys2Proof Sys2Proof.Machine

set_option maxRecDepth 20000

/-! ### Helpers -/

/-- The start state of 95_test_vectors.md section 0, in an AC mode. -/
def start (m : AcMode) : State :=
  { State.atLaunch { defaultParams with acMode := m, io := .minimal } [] with pc := 0x0100, sp := 0x2400 }

/-- The state with memory bytes listed and the instruction's bytes placed at PC. -/
def withBytes (cells : List Host.Cell) (bs : List Byte) (s : State) : State :=
  { s with mem := writeBytes (writeCells s.mem cells) s.pc.toNat bs }

/-- One step of `s` answers exactly `t`. -/
def stepsTo (s t : State) : Bool :=
  match step s with
  | .next u => decide (u = t)
  | .fault _ => false
  | .refused _ => false

/-- An outcome is exactly the next state `t`. -/
def answers (x : Host.Outcome State Fault Refusal) (t : State) : Bool :=
  match x with
  | .next u => decide (u = t)
  | .fault _ => false
  | .refused _ => false

/-- The one state an outcome answers, or the given one. -/
def after (x : Host.Outcome State Fault Refusal) (s : State) : State :=
  match x with
  | .next u => u
  | .fault _ => s
  | .refused _ => s

/-- A vector in one AC mode: start state, memory, bytes at PC, memory bytes changed, end state. -/
def vector (m : AcMode) (init : State → State) (cells : List Host.Cell) (bs : List Byte) (changed : List Host.Cell)
    (post : State → State) : Bool :=
  let s := withBytes cells bs (init (start m))
  stepsTo s (post { s with mem := writeCells s.mem changed })

/-- A vector with one end state for both AC modes. -/
def vectorBoth (init : State → State) (cells : List Host.Cell) (bs : List Byte) (changed : List Host.Cell)
    (post : State → State) : Bool :=
  vector .zero init cells bs changed post && vector .computed init cells bs changed post

/-- A vector that ends in a fault: the kind, its code, pc, opcode and detail; all else as in the start state. -/
def faultVector (init : State → State) (cells : List Host.Cell) (bs : List Byte) (k : FaultKind) (code : Nat) (pc : Word)
    (opcode : Option Byte) (detail : Option Nat) : Bool :=
  vectorBoth init cells bs [] (fun s => { s with run := .faulted { kind := k, pc, opcode, detail } }) &&
    decide (codeOfFault k = code)

/-- Each word decodes, as the opcode table numbers bits, to its instruction, which is well formed and encodes to those bytes. -/
def decodes (nbits : Nat) (rows : List (Nat × Instr)) : Bool :=
  rows.all fun r => decide (decodeTableWord nbits r.1 = some r.2) && r.2.wf && decide (r.2.format.bytes * 8 = nbits) &&
    decide (encode r.2 ++ List.replicate (3 - nbits / 8) 0 = tableBytes nbits r.1)

/-! ### Decoding: every opcode, by the rows of 30_encoding.md R82 -/

/-- `00000000` NOP, `00ddd000` *NOP. -/
theorem test_decode_nop : decodes 8 [
    (0b00000000, .nop), (0b00001000, .nopAlias08), (0b00010000, .nopAlias10), (0b00011000, .nopAlias18),
    (0b00100000, .nopAlias20), (0b00101000, .nopAlias28), (0b00110000, .nopAlias30), (0b00111000, .nopAlias38)] = true := by decide

/-- `00rp0001` LXI rp,d16. -/
theorem test_decode_lxi : decodes 24 [
    (0b000100100011010000000001, .lxiB 0x1234), (0b000100100011010000010001, .lxiD 0x1234),
    (0b000100100011010000100001, .lxiH 0x1234), (0b000100100011010000110001, .lxiSp 0x1234)] = true := by decide

/-- `00rp1001` DAD rp. -/
theorem test_decode_dad : decodes 8 [
    (0b00001001, .dadB), (0b00011001, .dadD), (0b00101001, .dadH), (0b00111001, .dadSp)] = true := by decide

/-- `00rp0011` INX rp, `00rp1011` DCX rp. -/
theorem test_decode_inx_dcx : decodes 8 [
    (0b00000011, .inxB), (0b00010011, .inxD), (0b00100011, .inxH), (0b00110011, .inxSp),
    (0b00001011, .dcxB), (0b00011011, .dcxD), (0b00101011, .dcxH), (0b00111011, .dcxSp)] = true := by decide

/-- `00ddd100` INR ddd. -/
theorem test_decode_inr : decodes 8 [
    (0b00000100, .inrB), (0b00001100, .inrC), (0b00010100, .inrD), (0b00011100, .inrE),
    (0b00100100, .inrH), (0b00101100, .inrL), (0b00110100, .inrM), (0b00111100, .inrA)] = true := by decide

/-- `00ddd101` DCR ddd. -/
theorem test_decode_dcr : decodes 8 [
    (0b00000101, .dcrB), (0b00001101, .dcrC), (0b00010101, .dcrD), (0b00011101, .dcrE),
    (0b00100101, .dcrH), (0b00101101, .dcrL), (0b00110101, .dcrM), (0b00111101, .dcrA)] = true := by decide

/-- `00ddd110` MVI ddd,d8. -/
theorem test_decode_mvi : decodes 16 [
    (0b1010010100000110, .mviB 0b10100101), (0b1010010100001110, .mviC 0b10100101),
    (0b1010010100010110, .mviD 0b10100101), (0b1010010100011110, .mviE 0b10100101),
    (0b1010010100100110, .mviH 0b10100101), (0b1010010100101110, .mviL 0b10100101),
    (0b1010010100110110, .mviM 0b10100101), (0b1010010100111110, .mviA 0b10100101)] = true := by decide

/-- `000p0010` STAX, `000p1010` LDAX. -/
theorem test_decode_stax_ldax : decodes 8 [
    (0b00000010, .staxB), (0b00010010, .staxD), (0b00001010, .ldaxB), (0b00011010, .ldaxD)] = true := by decide

/-- 0x22 SHLD, 0x2A LHLD, 0x32 STA, 0x3A LDA. -/
theorem test_decode_direct : decodes 24 [
    (0b000100100011010000100010, .shld 0x1234), (0b000100100011010000101010, .lhld 0x1234),
    (0b000100100011010000110010, .sta 0x1234), (0b000100100011010000111010, .lda 0x1234)] = true := by decide

/-- 0x07 RLC, 0x0F RRC, 0x17 RAL, 0x1F RAR, 0x27 DAA, 0x2F CMA, 0x37 STC, 0x3F CMC. -/
theorem test_decode_rotate_carry : decodes 8 [
    (0b00000111, .rlc), (0b00001111, .rrc), (0b00010111, .ral), (0b00011111, .rar),
    (0b00100111, .daa), (0b00101111, .cma), (0b00110111, .stc), (0b00111111, .cmc)] = true := by decide

/-- `01dddsss` MOV B,sss. -/
theorem test_decode_mov_b : decodes 8 [
    (0b01000000, .movBB), (0b01000001, .movBC), (0b01000010, .movBD), (0b01000011, .movBE),
    (0b01000100, .movBH), (0b01000101, .movBL), (0b01000110, .movBM), (0b01000111, .movBA)] = true := by decide

/-- `01dddsss` MOV C,sss. -/
theorem test_decode_mov_c : decodes 8 [
    (0b01001000, .movCB), (0b01001001, .movCC), (0b01001010, .movCD), (0b01001011, .movCE),
    (0b01001100, .movCH), (0b01001101, .movCL), (0b01001110, .movCM), (0b01001111, .movCA)] = true := by decide

/-- `01dddsss` MOV D,sss. -/
theorem test_decode_mov_d : decodes 8 [
    (0b01010000, .movDB), (0b01010001, .movDC), (0b01010010, .movDD), (0b01010011, .movDE),
    (0b01010100, .movDH), (0b01010101, .movDL), (0b01010110, .movDM), (0b01010111, .movDA)] = true := by decide

/-- `01dddsss` MOV E,sss. -/
theorem test_decode_mov_e : decodes 8 [
    (0b01011000, .movEB), (0b01011001, .movEC), (0b01011010, .movED), (0b01011011, .movEE),
    (0b01011100, .movEH), (0b01011101, .movEL), (0b01011110, .movEM), (0b01011111, .movEA)] = true := by decide

/-- `01dddsss` MOV H,sss. -/
theorem test_decode_mov_h : decodes 8 [
    (0b01100000, .movHB), (0b01100001, .movHC), (0b01100010, .movHD), (0b01100011, .movHE),
    (0b01100100, .movHH), (0b01100101, .movHL), (0b01100110, .movHM), (0b01100111, .movHA)] = true := by decide

/-- `01dddsss` MOV L,sss. -/
theorem test_decode_mov_l : decodes 8 [
    (0b01101000, .movLB), (0b01101001, .movLC), (0b01101010, .movLD), (0b01101011, .movLE),
    (0b01101100, .movLH), (0b01101101, .movLL), (0b01101110, .movLM), (0b01101111, .movLA)] = true := by decide

/-- `01dddsss` MOV M,sss except HLT. -/
theorem test_decode_mov_m : decodes 8 [
    (0b01110000, .movMB), (0b01110001, .movMC), (0b01110010, .movMD), (0b01110011, .movME),
    (0b01110100, .movMH), (0b01110101, .movML), (0b01110110, .hlt), (0b01110111, .movMA)] = true := by decide

/-- `01dddsss` MOV A,sss. -/
theorem test_decode_mov_a : decodes 8 [
    (0b01111000, .movAB), (0b01111001, .movAC), (0b01111010, .movAD), (0b01111011, .movAE),
    (0b01111100, .movAH), (0b01111101, .movAL), (0b01111110, .movAM), (0b01111111, .movAA)] = true := by decide

/-- `10alusss`, alu = 0. -/
theorem test_decode_add : decodes 8 [
    (0b10000000, .addB), (0b10000001, .addC), (0b10000010, .addD), (0b10000011, .addE),
    (0b10000100, .addH), (0b10000101, .addL), (0b10000110, .addM), (0b10000111, .addA)] = true := by decide

/-- `10alusss`, alu = 1. -/
theorem test_decode_adc : decodes 8 [
    (0b10001000, .adcB), (0b10001001, .adcC), (0b10001010, .adcD), (0b10001011, .adcE),
    (0b10001100, .adcH), (0b10001101, .adcL), (0b10001110, .adcM), (0b10001111, .adcA)] = true := by decide

/-- `10alusss`, alu = 2. -/
theorem test_decode_sub : decodes 8 [
    (0b10010000, .subB), (0b10010001, .subC), (0b10010010, .subD), (0b10010011, .subE),
    (0b10010100, .subH), (0b10010101, .subL), (0b10010110, .subM), (0b10010111, .subA)] = true := by decide

/-- `10alusss`, alu = 3. -/
theorem test_decode_sbb : decodes 8 [
    (0b10011000, .sbbB), (0b10011001, .sbbC), (0b10011010, .sbbD), (0b10011011, .sbbE),
    (0b10011100, .sbbH), (0b10011101, .sbbL), (0b10011110, .sbbM), (0b10011111, .sbbA)] = true := by decide

/-- `10alusss`, alu = 4. -/
theorem test_decode_ana : decodes 8 [
    (0b10100000, .anaB), (0b10100001, .anaC), (0b10100010, .anaD), (0b10100011, .anaE),
    (0b10100100, .anaH), (0b10100101, .anaL), (0b10100110, .anaM), (0b10100111, .anaA)] = true := by decide

/-- `10alusss`, alu = 5. -/
theorem test_decode_xra : decodes 8 [
    (0b10101000, .xraB), (0b10101001, .xraC), (0b10101010, .xraD), (0b10101011, .xraE),
    (0b10101100, .xraH), (0b10101101, .xraL), (0b10101110, .xraM), (0b10101111, .xraA)] = true := by decide

/-- `10alusss`, alu = 6. -/
theorem test_decode_ora : decodes 8 [
    (0b10110000, .oraB), (0b10110001, .oraC), (0b10110010, .oraD), (0b10110011, .oraE),
    (0b10110100, .oraH), (0b10110101, .oraL), (0b10110110, .oraM), (0b10110111, .oraA)] = true := by decide

/-- `10alusss`, alu = 7. -/
theorem test_decode_cmp : decodes 8 [
    (0b10111000, .cmpB), (0b10111001, .cmpC), (0b10111010, .cmpD), (0b10111011, .cmpE),
    (0b10111100, .cmpH), (0b10111101, .cmpL), (0b10111110, .cmpM), (0b10111111, .cmpA)] = true := by decide

/-- `11ccc000` Rcc. -/
theorem test_decode_rcc : decodes 8 [
    (0b11000000, .rnz), (0b11001000, .rz), (0b11010000, .rnc), (0b11011000, .rc),
    (0b11100000, .rpo), (0b11101000, .rpe), (0b11110000, .rp), (0b11111000, .rm)] = true := by decide

/-- `11ccc010` Jcc a16. -/
theorem test_decode_jcc : decodes 24 [
    (0b000100100011010011000010, .jnz 0x1234), (0b000100100011010011001010, .jz 0x1234),
    (0b000100100011010011010010, .jnc 0x1234), (0b000100100011010011011010, .jc 0x1234),
    (0b000100100011010011100010, .jpo 0x1234), (0b000100100011010011101010, .jpe 0x1234),
    (0b000100100011010011110010, .jp 0x1234), (0b000100100011010011111010, .jm 0x1234)] = true := by decide

/-- `11ccc100` Ccc a16. -/
theorem test_decode_ccc : decodes 24 [
    (0b000100100011010011000100, .cnz 0x1234), (0b000100100011010011001100, .cz 0x1234),
    (0b000100100011010011010100, .cnc 0x1234), (0b000100100011010011011100, .cc 0x1234),
    (0b000100100011010011100100, .cpo 0x1234), (0b000100100011010011101100, .cpe 0x1234),
    (0b000100100011010011110100, .cp 0x1234), (0b000100100011010011111100, .cm 0x1234)] = true := by decide

/-- `11alu110` immediate ALU operation. -/
theorem test_decode_immediate_alu : decodes 16 [
    (0b1010010111000110, .adi 0b10100101), (0b1010010111001110, .aci 0b10100101),
    (0b1010010111010110, .sui 0b10100101), (0b1010010111011110, .sbi 0b10100101),
    (0b1010010111100110, .ani 0b10100101), (0b1010010111101110, .xri 0b10100101),
    (0b1010010111110110, .ori 0b10100101), (0b1010010111111110, .cpi 0b10100101)] = true := by decide

/-- `11nnn111` RST nnn. -/
theorem test_decode_rst : decodes 8 [
    (0b11000111, .rst0), (0b11001111, .rst1), (0b11010111, .rst2), (0b11011111, .rst3),
    (0b11100111, .rst4), (0b11101111, .rst5), (0b11110111, .rst6), (0b11111111, .rst7)] = true := by decide

/-- `11rp0001` POP rp, `11rp0101` PUSH rp (3 = PSW). -/
theorem test_decode_pop_push : decodes 8 [
    (0b11000001, .popB), (0b11010001, .popD), (0b11100001, .popH), (0b11110001, .popPsw),
    (0b11000101, .pushB), (0b11010101, .pushD), (0b11100101, .pushH), (0b11110101, .pushPsw)] = true := by decide

/-- 0xC3 JMP, 0xCB *JMP, 0xCD CALL, 0xDD, 0xED, 0xFD *CALL. -/
theorem test_decode_jmp_call : decodes 24 [
    (0b000100100011010011000011, .jmp 0x1234), (0b000100100011010011001011, .jmpAlias 0x1234),
    (0b000100100011010011001101, .call 0x1234), (0b000100100011010011011101, .callAliasDD 0x1234),
    (0b000100100011010011101101, .callAliasED 0x1234), (0b000100100011010011111101, .callAliasFD 0x1234)] = true := by decide

/-- 0xD3 OUT, 0xDB IN. -/
theorem test_decode_io : decodes 16 [
    (0b1010010111010011, .outp 0b10100101), (0b1010010111011011, .inp 0b10100101)] = true := by decide

/-- 0xC9 RET, 0xD9 *RET, 0xE3 XTHL, 0xE9 PCHL, 0xEB XCHG, 0xF3 DI, 0xF9 SPHL, 0xFB EI. -/
theorem test_decode_single : decodes 8 [
    (0b11001001, .ret), (0b11011001, .retAlias), (0b11100011, .xthl), (0b11101001, .pchl),
    (0b11101011, .xchg), (0b11110011, .di), (0b11111001, .sphl), (0b11111011, .ei)] = true := by decide

/-! ### What the checks of WellFormed refuse -/

/-- A length of 0 or 4 is refused; 1 and 3 are not (R87). -/
theorem test_wf_length : lengthWf 0 = false ∧ lengthWf 4 = false ∧ lengthWf 1 = true ∧ lengthWf 3 = true := by decide

/-- MEM_SIZE 0 and 65537 are refused; 1 and 65536 are not (R5). -/
theorem test_wf_mem_size :
    memSizeWf 0 = false ∧ memSizeWf 65537 = false ∧ memSizeWf 1 = true ∧ memSizeWf 65536 = true := by decide

/-- DAA_MODE = Execute with AC_MODE = Zero is refused (R8). -/
theorem test_wf_daa_mode :
    daaModeWf .execute .zero = false ∧ daaModeWf .execute .computed = true ∧ daaModeWf .fault .zero = true := by decide

/-- Parameters with either check failing are refused; the defaults are not. -/
theorem test_wf_params :
    ({ defaultParams with memSize := 0 } : Params).wf = false ∧
    ({ defaultParams with acMode := .zero, daaMode := .execute } : Params).wf = false ∧ defaultParams.wf = true := by decide

/-- An image one byte too long is refused; one that just fits is not (R240). -/
theorem test_wf_image :
    ({ defaultParams with memSize := 4, loadOffset := 2 } : Params).imageFits [1, 2, 3] = false ∧
    ({ defaultParams with memSize := 4, loadOffset := 2 } : Params).imageFits [1, 2] = true := by decide

/-- A memory out of order, with a repeat, or listing the unlisted byte is refused. -/
theorem test_wf_memory :
    Memory.wf [(3, 1), (2, 1)] = false ∧ Memory.wf [(3, 1), (3, 2)] = false ∧ Memory.wf [(3, 0)] = false ∧
    Memory.wf [(2, 1), (3, 1)] = true := by decide

/-! ### The host's two entry points on words of the table -/

/-- LXI H,0x1234 and CALL 0x3000 placed at reset run as the first instruction. -/
theorem test_withFetchWord_runs :
    answers (step (State.reset.withFetchWord 24 0x123421))
      { State.reset with mem := [(0, 0x21), (1, 0x34), (2, 0x12)], h := 0x12, l := 0x34, pc := 3, wait := 9 } = true ∧
    answers (step (State.reset.withFetchWord 8 0xC3))
      { State.reset with mem := [(0, 0xC3)], pc := 0, wait := 9 } = true := by decide

/-- From reset with nothing placed the first step runs the NOP that memory reads as (log entry 6). -/
theorem test_reset_runs_nop : answers (step State.reset) { State.reset with pc := 1, wait := 3 } = true := by decide

/-! ### A state for the hypotheses of every statement that has some -/

/-- A machine with `n` bytes of memory, SP and H:L as given, PC 0. -/
def small (n : Nat) (sp : Word) (hl : Word) : State :=
  { State.atLaunch { defaultParams with memSize := n, io := .minimal } [] with sp := sp, h := hi hl, l := lo hl }

/-- The same with every opcode executed. -/
def full (n : Nat) (sp : Word) (hl : Word) : State :=
  let s := small n sp hl
  { s with params := { s.params with daaMode := .execute, unlistedOps := .execute } }

/-- Four bytes of memory, loaded at 1. -/
def fourBytes : Params := { defaultParams with memSize := 4, loadOffset := 1 }

/-- LaunchGivesResetRegisters, LaunchEstablishesInvariant: a launch with an image that fills memory to its end. -/
theorem test_witness_launch :
    ∃ s, launch fourBytes [(0, 0x11)] [0x3E, 0x00, 0x76] = .next s ∧ s.mem = [(0, 0x11), (1, 0x3E), (3, 0x76)] ∧
      s.pc = 1 ∧ s.sp = 1 ∧ s.f = 0x02 := ⟨_, rfl, by decide⟩

/-- LaunchLoadsImageAndInitMem: the last byte of the image, and the one address outside it. -/
theorem test_witness_launch_memory :
    ∃ s, launch fourBytes [(0, 0x11), (2, 0x22), (9, 0x33)] [0x3E, 0x00, 0x76] = .next s ∧
      readMem s.mem 3 = 0x76 ∧ readMem s.mem 2 = 0 ∧ readMem s.mem 0 = 0x11 ∧ readMem s.mem 9 = 0 := ⟨_, rfl, by decide⟩

/-- LaunchRefusals: fits exactly, one byte too long, and each parameter check failing. -/
theorem test_witness_launch_refusals :
    fourBytes.wf = true ∧ fourBytes.loadOffset.toNat + 3 = fourBytes.memSize ∧
    launch fourBytes [] [1, 2, 3, 4] = .refused .imageDoesNotFit ∧
    launch { fourBytes with memSize := 65537 } [] [] = .refused .parametersNotPermitted ∧
    launch { fourBytes with acMode := .zero, daaMode := .execute } [] [] = .refused .parametersNotPermitted :=
  ⟨by decide, by decide, rfl, rfl, rfl⟩

/-- MemoryReadAfterWrite: a write of the unlisted byte, which removes a cell, at the last address. -/
theorem test_witness_memory_write :
    let s := { small 4 0 0 with mem := [(2, 7), (3, 9)] }
    Memory.wf s.mem = true ∧ memWrite 3 0 s = .ok { s with mem := [(2, 7)] } ∧ (2 : Nat) ≠ 3 :=
  ⟨by decide, rfl, by decide⟩

/-- MemoryBounds: the last address, the first beyond it, and permitted parameters. -/
theorem test_witness_memory_bounds :
    3 < (small 4 0 0).params.memSize ∧ (small 4 0 0).params.memSize ≤ 4 ∧ (small 65536 0 0).params.wf = true := by decide

/-- EqualMemoriesAreEqualData: two orders of writing. -/
theorem test_witness_equal_memories :
    let m := writeCells [] [(5, 1), (3, 2)]
    let n := writeCells [] [(3, 9), (5, 1), (3, 2)]
    Memory.wf m = true ∧ Memory.wf n = true ∧ m = n ∧ m = [(3, 2), (5, 1)] := by decide

/-- PushWritesTwoBytes: SP = 1; SP = 2 just beyond memory; SP = 2, the lowest that pushes, at the last byte. -/
theorem test_witness_push :
    (small 3 1 0).sp.toNat ≤ 1 ∧ 2 ≤ (small 2 2 0).sp.toNat ∧ (small 2 2 0).params.memSize ≤ (small 2 2 0).sp.toNat ∧
    pushOk (small 3 2 0) ∧ push16 0x1234 (small 3 2 0) = .ok { small 3 0 0 with mem := [(1, 0x34), (2, 0x12)] } :=
  ⟨by decide, by decide, by decide, by simp only [pushOk]; decide, rfl⟩

/-- PopReadsTwoBytes: SP = 0xFFFE; SP = 0xFFFD with its high byte just beyond memory; SP = 0xFFFD, the highest that pops. -/
theorem test_witness_pop :
    0xFFFE ≤ (small 65536 0xFFFE 0).sp.toNat ∧ (small 0xFFFF 0xFFFD 0).sp.toNat < 0xFFFE ∧
    (small 0xFFFF 0xFFFD 0).params.memSize ≤ (small 0xFFFF 0xFFFD 0).sp.toNat + 2 ∧ popOk (small 65536 0xFFFD 0) := by
  simp only [popOk]; decide

/-- PopUndoesPush: a push from the lowest SP. -/
theorem test_witness_pop_undoes_push :
    ∃ t, push16 0x1234 (small 3 2 0) = .ok t ∧ Memory.wf (small 3 2 0).mem = true ∧
      pop16 t = .ok (0x1234, { t with sp := 2 }) := ⟨_, rfl, by decide, rfl⟩

/-- The statements over a register operand: M at the last byte of memory, and M just beyond it. -/
theorem test_witness_operand :
    operandOk .m (small 4 0 3) ∧ ¬ operandOk .m (small 4 0 4) ∧ operandOk .a (small 4 0 4) ∧
    Memory.wf (small 4 0 3).mem = true ∧ (Reg8.b ≠ .m ∧ Reg8.b ≠ .a) := by
  simp only [operandOk]; decide

/-- PswWriteForcesFixedBits, InverseInstructions: F with its fixed bits. -/
theorem test_witness_flags_fixed : State.flagsFixed { small 4 0 0 with f := 0xD7 } ∧ ¬ State.flagsFixed { small 4 0 0 with f := 0 } := by
  simp only [State.flagsFixed]; decide

/-- FlagWritesChangeOneBit: all flags set, none set, and the ends of the range of bits. -/
theorem test_witness_flag_bits :
    (0xD7 : Byte) &&& 0x2A = 0x02 ∧ (0x02 : Byte) &&& 0x2A = 0x02 ∧ 0 < 8 ∧ 7 < 8 := by decide

/-- MovCopiesOneByte: MOV M,B is an instruction, MOV M,M is none. -/
theorem test_witness_mov : movInstr .m .b = some .movMB ∧ movInstr .m .m = none ∧ movInstr .a .m = some .movAM := by decide

/-- AccumulatorLoadsAndStores: the last address and the first beyond, directly and through BC. -/
theorem test_witness_direct :
    let s := { small 4 0 0 with c := 3, e := 4 }
    (3 : Word).toNat < s.params.memSize ∧ s.params.memSize ≤ (4 : Word).toNat ∧ indexAddr .bc s < s.params.memSize ∧
    s.params.memSize ≤ indexAddr .de s := by decide

/-- DirectPairLoadsAndExchange: the last pair in memory, one byte in, none in, and 0xFFFF in full memory. -/
theorem test_witness_direct_pair :
    let s := small 4 0 0
    (2 : Word).toNat + 1 < s.params.memSize ∧ ((3 : Word).toNat < s.params.memSize ∧ s.params.memSize ≤ (3 : Word).toNat + 1) ∧
    s.params.memSize ≤ (4 : Word).toNat ∧ (0xFFFF : Word).toNat < 65536 ∧ 65536 ≤ (0xFFFF : Word).toNat + 1 := by decide

/-- DecimalAdjust: both modes, and for each of the four corrections an accumulator that takes it (a low digit of 10 with a high
digit of 9 takes both). -/
theorem test_witness_daa :
    (small 4 0 0).params.daaMode = .fault ∧ (full 4 0 0).params.daaMode = .execute ∧
    answers (exec .daa { full 4 0 0 with a := 0x9A }) { full 4 0 0 with a := 0x00, f := 0x57, pc := 1, wait := 3 } = true ∧
    answers (exec .daa { full 4 0 0 with a := 0x8A }) { full 4 0 0 with a := 0x90, f := 0x96, pc := 1, wait := 3 } = true ∧
    answers (exec .daa { full 4 0 0 with a := 0xA0 }) { full 4 0 0 with a := 0x00, f := 0x47, pc := 1, wait := 3 } = true ∧
    answers (exec .daa { full 4 0 0 with a := 0x99 }) { full 4 0 0 with a := 0x99, f := 0x86, pc := 1, wait := 3 } = true := by
  decide

/-- JumpsSetPc, CallsPushReturnAddress, ReturnsPopPc: every condition holds for some F and fails for another. -/
theorem test_witness_conditions :
    [Cond.nz, .nc, .po, .p].all (fun k => condHolds k 0x02 && !condHolds k 0xD7) = true ∧
    [Cond.z, .c, .pe, .m].all (fun k => condHolds k 0xD7 && !condHolds k 0x02) = true ∧
    Instr.jmpAlias 5 ∈ jmpInstrs 5 ∧ Instr.callAliasFD 5 ∈ callInstrs 5 ∧ Instr.retAlias ∈ retInstrs := by decide

/-- PchlAndRestart, ExchangeTopAndLoadSp, MachineControl: both values of UNLISTED_OPS, with room to push and to pop; XTHL with its
high byte just beyond memory, and with both. -/
theorem test_witness_unlisted :
    (small 8 2 0).params.unlistedOps = .fault ∧ (full 8 2 0).params.unlistedOps = .execute ∧ pushOk (full 8 2 0) ∧
    popOk (full 8 2 0) ∧ (full 4 2 0).params.memSize = (full 4 2 0).sp.toNat + 2 ∧
    (full 3 2 0).params.memSize ≤ (full 3 2 0).sp.toNat + 1 ∧ Instr.nopAlias38 ∈ nopInstrs := by
  simp only [pushOk, popOk]; decide

/-- The undefined-opcode arm of RST 7, as the default parameters give it. -/
theorem test_rst7_undefined :
    answers (exec .rst7 (small 8 2 0)) (faultedAt .rst7 (small 8 2 0) .undefinedOpcode none) = true := by decide

/-- InputAndOutput: both collaborators; the draw is counted, whatever byte it answers. -/
theorem test_witness_io :
    (small 8 2 0).params.io = .minimal ∧ State.reset.params.io = .external ∧
    exec (.inp 7) State.reset =
      .next { State.reset with a := Config.ioIn 0 7, ioReads := 1, pc := 2, wait := 9 } := ⟨rfl, rfl, rfl⟩

/-- InverseInstructions: a CALL and its RET, and a PUSH PSW and its POP, both complete. -/
theorem test_witness_inverse :
    (∃ t u, exec (.call 5) (small 8 4 0) = .next t ∧ exec .ret t = .next u ∧ u.pc = 3 ∧ u.sp = 4) ∧
    ∃ t u, exec .pushPsw (small 8 4 0) = .next t ∧ exec .popPsw t = .next u ∧ u.f = 0x02 ∧ u.sp = 4 :=
  ⟨⟨_, _, rfl, rfl, by decide⟩, ⟨_, _, rfl, rfl, by decide⟩⟩

/-- InverseInstructions: the pairs without the stack complete. -/
theorem test_witness_inverse_registers :
    ∃ t u v w, exec .xchg (small 8 4 0x1234) = .next t ∧ exec .xchg t = .next u ∧ exec .stc u = .next v ∧ exec .cmc v = .next w ∧
      u.h = 0x12 ∧ flagCY v.f = true ∧ flagCY w.f = false := ⟨_, _, _, _, rfl, rfl, rfl, rfl, by decide⟩

/-- UndefinedOpcodeExactly, StackFaultsExactly: running states in which each is raised. -/
theorem test_witness_raises :
    (small 8 1 0).run = .running ∧ raises .daa (small 8 1 0) .undefinedOpcode ∧ raises .xthl (small 8 1 0) .undefinedOpcode ∧
    raises .pushB (small 8 1 0) .stackUnderflowProtection ∧ raises .popB (small 8 0xFFFE 0) .stackPopOutOfRange :=
  ⟨rfl, ⟨_, rfl⟩, ⟨_, rfl⟩, ⟨_, rfl⟩, ⟨_, rfl⟩⟩

/-- DataAccessFaultsInFullMemory: the one access that is out of range in full memory. -/
theorem test_witness_full_memory :
    (small 65536 2 0).run = .running ∧ (small 65536 2 0).params.memSize = 65536 ∧
    exec (.shld 0xFFFF) (small 65536 2 0) =
      .next (faultedAt (.shld 0xFFFF) (small 65536 2 0) .memoryOutOfRange (some 0x10000)) := ⟨rfl, rfl, rfl⟩

/-- FetchFaults at the end of a memory of 2 bytes: byte 0 at 2, byte 1 of MVI at 1, byte 2 of LXI at 0. -/
theorem test_witness_fetch_end_of_memory :
    stepsTo { small 2 0 0 with pc := 2 } (faultedWith { small 2 0 0 with pc := 2 } .memoryOutOfRange none (some 2)) = true ∧
    (let s := { small 2 0 0 with pc := 1, mem := [(1, 0x3E)] }
     stepsTo s (faultedWith s .memoryOutOfRange (some 0x3E) (some 2)) = true ∧ 1 < (rowOf (readMem s.mem 1)).len) ∧
    (let s := { small 2 0 0 with mem := [(0, 0x01)] }
     stepsTo s (faultedWith s .memoryOutOfRange (some 0x01) (some 2)) = true ∧ 2 < (rowOf (readMem s.mem 0)).len) := by decide

/-- FetchFaults at the end of the address space: byte 0, byte 1 and byte 2 at 0xFFFF. -/
theorem test_witness_fetch_pc_overflow :
    stepsTo { small 65536 0 0 with pc := 0xFFFF }
      (faultedWith { small 65536 0 0 with pc := 0xFFFF } .pcOverflow none (some 0xFFFF)) = true ∧
    (let s := { small 65536 0 0 with pc := 0xFFFE, mem := [(0xFFFE, 0x3E)] }
     stepsTo s (faultedWith s .pcOverflow (some 0x3E) (some 0xFFFF)) = true) ∧
    (let s := { small 65536 0 0 with pc := 0xFFFD, mem := [(0xFFFD, 0xC3)] }
     stepsTo s (faultedWith s .pcOverflow (some 0xC3) (some 0xFFFF)) = true) := by decide

/-- FaultsArePrecise: a running state whose step ends in a fault. -/
theorem test_witness_precise :
    ∃ t rec, step { small 8 1 0 with mem := [(0, 0xC5)] } = .next t ∧ t.run = .faulted rec ∧
      rec = { kind := .stackUnderflowProtection, pc := 0, opcode := some 0xC5, detail := some 1 } := ⟨_, _, rfl, rfl, by decide⟩

/-- FaultsArePrecise: the other four kinds, each with its detail at the end of its range. -/
theorem test_witness_precise_kinds :
    (let s := { small 8 2 0 with mem := [(0, 0xFF)] }
     stepsTo s (faultedWith s .undefinedOpcode (some 0xFF) none) = true) ∧
    (let s := { small 8 0xFFFE 0 with mem := [(0, 0xC9)] }
     stepsTo s (faultedWith s .stackPopOutOfRange (some 0xC9) (some 0xFFFE)) = true) ∧
    (let s := { small 8 2 8 with mem := [(0, 0x7E)] }
     stepsTo s (faultedWith s .memoryOutOfRange (some 0x7E) (some 8)) = true) ∧
    (let s := { small 65536 2 0 with pc := 0xFFFE, mem := [(0xFFFE, 0x3E)] }
     stepsTo s (faultedWith s .pcOverflow (some 0x3E) (some 0xFFFF)) = true) := by decide

/-- StepRunsDecodedInstruction: three bytes that end at the last byte of memory. -/
theorem test_witness_step_decodes :
    let s := { small 3 0 0 with mem := [(0, 0x21), (1, 0x34), (2, 0x12)] }
    s.run = .running ∧ s.wait = 0 ∧ decode (bytesAt s.mem s.pc.toNat 3) = .ok (.lxiH 0x1234, []) ∧
    s.pc.toNat + lenOf (.lxiH 0x1234) ≤ s.params.memSize ∧ s.pc.toNat + lenOf (.lxiH 0x1234) ≤ 0xFFFF :=
  ⟨rfl, rfl, rfl, by decide, by decide⟩

/-- RunStateMachine: cycles owed, Halted and Faulted. -/
theorem test_witness_run_states :
    stepsTo { small 8 1 0 with wait := 1 } (small 8 1 0) = true ∧
    step { small 8 1 0 with run := .halted } = .fault .noStepFromHalted ∧
    ∃ rec, step (faultedWith (small 8 1 0) .pcOverflow none none) = .fault (.noStepFromFaulted rec) :=
  ⟨by decide, rfl, _, rfl⟩

/-- InstructionOccupiesItsDuration: NOP, RNZ not taken, and HLT, fetched at a state that owes nothing. -/
theorem test_witness_durations :
    (∃ t, fetchInstr (small 8 1 0) = .ok .nop ∧ exec .nop (small 8 1 0) = .next t ∧ t.run = .running ∧
      durOf .nop = 4 ∧ Host.Core.run core 4 (small 8 1 0) = .next { t with wait := 0 }) ∧
    (let s := { small 8 1 0 with mem := [(0, 0xC0)], f := 0x42 }
     fetchInstr s = .ok .rnz ∧ notTaken .rnz s ∧ altOf .rnz = 5) ∧
    (let s := { small 8 1 0 with mem := [(0, 0x76)] }
     ∃ t, fetchInstr s = .ok .hlt ∧ exec .hlt s = .next t ∧ t.run = .halted) :=
  ⟨⟨_, rfl, rfl, rfl, by decide, rfl⟩, ⟨rfl, Or.inr ⟨.nz, rfl, by decide⟩, by decide⟩, ⟨_, rfl, rfl, rfl⟩⟩

/-- DecodeUndoesEncode, EncodeUndoesDecode: an instruction with bytes after it. -/
theorem test_witness_decode :
    (Instr.call 0x3000).wf = true ∧ decode (encode (.call 0x3000) ++ [0x76]) = .ok (.call 0x3000, [0x76]) ∧
    decode [0xCD, 0x00, 0x30, 0x76] = .ok (.call 0x3000, [0x76]) := ⟨by decide, rfl, rfl⟩

/-- DisassemblyRoundTrip: a stream that ends inside an instruction, with as many lines as bytes; one of complete instructions, with as
many lines as instructions; and the source's line (30_encoding.md R90). -/
theorem test_witness_disassembly :
    disasmStream 5 [0xC3, 0x05, 0x00, 0x76, 0x3E] = ([.jmp 5, .hlt], [0x3E]) ∧
    decode [0x3E] = .error (.missingOperand 0x3E) ∧
    ([Instr.jmp 5, .hlt].map encode).flatten = [0xC3, 0x05, 0x00, 0x76] ∧
    disasmStream 2 [0xC3, 0x05, 0x00, 0x76] = ([.jmp 5, .hlt], []) ∧
    disasmLine 0x0100 (.jmp 5) = "0x0100  JMP     0x0005".toList := by decide

/-- StepKeepsInvariant: the reset state meets the invariant and its step answers a next state. -/
theorem test_witness_invariant : State.reset.Inv ∧ ∃ t, step State.reset = .next t ∧ t.pc = 1 :=
  ⟨⟨by decide, by decide, by simp only [State.flagsFixed]; decide, by decide, by decide, by decide⟩, _, rfl, by decide⟩

/-- RegisterFrame, FlagFrame, MemoryFrame, SystemFrame, WaitAndInteAreNotRead: a storing instruction that completes, with a register,
a flag and an address it does not write, and one that writes no flag. -/
theorem test_witness_frames :
    ∃ t, exec (.sta 3) { small 4 0 0 with a := 9 } = .next t ∧ readMem t.mem 3 = 9 ∧
      RegName.b ∉ regsWritten (.sta 3) ∧ FlagName.z ∉ flagsWritten (.sta 3) ∧ flagsWritten (.sta 3) = [] ∧
      2 ∉ storeAddrs (.sta 3) (small 4 0 0) ∧ Instr.sta 3 ≠ .popPsw ∧ Instr.sta 3 ≠ .ei ∧ Instr.sta 3 ≠ .di ∧
      Instr.sta 3 ≠ .outp 1 ∧ Instr.sta 3 ≠ .inp 1 := ⟨_, rfl, by decide⟩

/-- The flags an INR leaves, and the two bytes a PUSH stores. -/
theorem test_witness_frames_stack :
    ∃ t, exec .pushB (small 4 3 0) = .next t ∧ storeAddrs .pushB (small 4 3 0) = [3, 2] ∧
      FlagName.cy ∉ flagsWritten .inrB ∧ FlagName.z ∈ flagsWritten .inrB := ⟨_, rfl, by decide⟩

/-! ### Worked vectors -/

/-! Data movement (95_test_vectors.md section 2) -/

/-- DM1 (R100): MOV B,C; source §4.2 names 0x41. -/
theorem test_DM1_mov_b_c :
  vectorBoth (fun s => { s with c := 0x5A })
    [] [0x41] [] (fun s => { s with b := 0x5A, f := 0x02, pc := 0x0101, wait := 4 }) = true := by decide

/-- DM2 (R100): MOV M,A. -/
theorem test_DM2_mov_m_a :
  vectorBoth (fun s => { s with a := 0x99, h := 0x30, l := 0x00 })
    [] [0x77] [(0x3000, 0x99)] (fun s => { s with f := 0x02, pc := 0x0101, wait := 6 }) = true := by decide

/-- DM3 (R100): MOV A,M. -/
theorem test_DM3_mov_a_m :
  vectorBoth (fun s => { s with h := 0x30, l := 0x00 })
    [(0x3000, 0x77)] [0x7E] [] (fun s => { s with a := 0x77, f := 0x02, pc := 0x0101, wait := 6 }) = true := by decide

/-- DM4 (R100): MOV A,A; flags unaffected. -/
theorem test_DM4_mov_a_a :
  vectorBoth (fun s => { s with a := 0x12, f := 0xD7 })
    [] [0x7F] [] (fun s => { s with f := 0xD7, pc := 0x0101, wait := 4 }) = true := by decide

/-- DM5 (R101): MVI A; F unaffected. -/
theorem test_DM5_mvi_a :
  vectorBoth (fun s => { s with f := 0xD7 })
    [] [0x3E, 0x80] [] (fun s => { s with a := 0x80, f := 0xD7, pc := 0x0102, wait := 6 }) = true := by decide

/-- DM6 (R101): MVI M. -/
theorem test_DM6_mvi_m :
  vectorBoth (fun s => { s with h := 0x30, l := 0x00 })
    [] [0x36, 0x12] [(0x3000, 0x12)] (fun s => { s with f := 0x02, pc := 0x0102, wait := 9 }) = true := by decide

/-- DM7 (R102): LXI SP; little-endian immediate. -/
theorem test_DM7_lxi_sp :
  vectorBoth (fun s => s)
    [] [0x31, 0xCD, 0xAB] [] (fun s => { s with f := 0x02, pc := 0x0103, sp := 0xABCD, wait := 9 }) = true := by decide

/-- DM8 (R102): LXI H; source §4.2 names 0x21. -/
theorem test_DM8_lxi_h :
  vectorBoth (fun s => s)
    [] [0x21, 0x34, 0x12] [] (fun s => { s with h := 0x12, l := 0x34, f := 0x02, pc := 0x0103, wait := 9 }) = true := by decide

/-- DM9 (R103): LDA. -/
theorem test_DM9_lda :
  vectorBoth (fun s => s)
    [(0x3000, 0x5C)] [0x3A, 0x00, 0x30] [] (fun s => { s with a := 0x5C, f := 0x02, pc := 0x0103, wait := 12 }) = true := by decide

/-- DM10 (R104): STA. -/
theorem test_DM10_sta :
  vectorBoth (fun s => { s with a := 0x11 })
    [] [0x32, 0x00, 0x30] [(0x3000, 0x11)] (fun s => { s with f := 0x02, pc := 0x0103, wait := 12 }) = true := by decide

/-- DM11 (R105): LDAX B. -/
theorem test_DM11_ldax_b :
  vectorBoth (fun s => { s with b := 0x30, c := 0x00 })
    [(0x3000, 0xA5)] [0x0A] [] (fun s => { s with a := 0xA5, f := 0x02, pc := 0x0101, wait := 6 }) = true := by decide

/-- DM12 (R105): LDAX D. -/
theorem test_DM12_ldax_d :
  vectorBoth (fun s => { s with d := 0x30, e := 0x01 })
    [(0x3001, 0x3C)] [0x1A] [] (fun s => { s with a := 0x3C, f := 0x02, pc := 0x0101, wait := 6 }) = true := by decide

/-- DM13 (R106): STAX B. -/
theorem test_DM13_stax_b :
  vectorBoth (fun s => { s with a := 0x66, b := 0x30, c := 0x02 })
    [] [0x02] [(0x3002, 0x66)] (fun s => { s with f := 0x02, pc := 0x0101, wait := 6 }) = true := by decide

/-- DM15 (R107): LHLD: L from a16, H from a16+1. -/
theorem test_DM15_lhld :
  vectorBoth (fun s => s)
    [(0x3000, 0x34), (0x3001, 0x12)] [0x2A, 0x00, 0x30] [] (fun s => { s with h := 0x12, l := 0x34, f := 0x02, pc := 0x0103, wait := 15 }) = true := by decide

/-- DM16 (R108): SHLD: L to a16, H to a16+1. -/
theorem test_DM16_shld :
  vectorBoth (fun s => { s with h := 0xBE, l := 0xEF })
    [] [0x22, 0x00, 0x30] [(0x3000, 0xEF), (0x3001, 0xBE)] (fun s => { s with f := 0x02, pc := 0x0103, wait := 15 }) = true := by decide

/-- DM17 (R107): LHLD at 0xFFFF: a16+1 = 0x10000, no wrap (D7). -/
theorem test_DM17_lhld :
  faultVector (fun s => s)
    [] [0x2A, 0xFF, 0xFF] (.memoryOutOfRange) 4 0x0100 (some 0x2A) (some 0x10000) = true := by decide

/-- DM18 (R108): SHLD at 0xFFFF: the write of L to 0xFFFF does not stay (precise). -/
theorem test_DM18_shld :
  faultVector (fun s => { s with h := 0xBE, l := 0xEF })
    [] [0x22, 0xFF, 0xFF] (.memoryOutOfRange) 4 0x0100 (some 0x22) (some 0x10000) = true := by decide

/-- DM19 (R109): XCHG; flags unaffected. -/
theorem test_DM19_xchg :
  vectorBoth (fun s => { s with d := 0x12, e := 0x34, h := 0x56, l := 0x78, f := 0xD7 })
    [] [0xEB] [] (fun s => { s with d := 0x56, e := 0x78, h := 0x12, l := 0x34, f := 0xD7, pc := 0x0101, wait := 3 }) = true := by decide

/-! Arithmetic (95_test_vectors.md section 2) -/

/-- AR1 (R123): ADD B; source S3. -/
theorem test_AR1_add_b :
  vectorBoth (fun s => { s with a := 0x80, b := 0x80 })
    [] [0x80] [] (fun s => { s with a := 0x00, f := 0x47, pc := 0x0101, wait := 3 }) = true := by decide

/-- AR2 (R123): half-carry only. -/
theorem test_AR2_add_b :
  vector .zero (fun s => { s with a := 0x0F, b := 0x01 })
    [] [0x80] [] (fun s => { s with a := 0x10, f := 0x02, pc := 0x0101, wait := 3 }) = true ∧
  vector .computed (fun s => { s with a := 0x0F, b := 0x01 })
    [] [0x80] [] (fun s => { s with a := 0x10, f := 0x12, pc := 0x0101, wait := 3 }) = true := by decide

/-- AR4 (R123): ADD M. -/
theorem test_AR4_add_m :
  vectorBoth (fun s => { s with a := 0x12, h := 0x30, l := 0x00 })
    [(0x3000, 0x34)] [0x86] [] (fun s => { s with a := 0x46, f := 0x02, pc := 0x0101, wait := 6 }) = true := by decide

/-- AR5 (R124): ADC C, CY in = 1. -/
theorem test_AR5_adc_c :
  vector .zero (fun s => { s with a := 0xFF, c := 0x00, f := 0x03 })
    [] [0x89] [] (fun s => { s with a := 0x00, f := 0x47, pc := 0x0101, wait := 3 }) = true ∧
  vector .computed (fun s => { s with a := 0xFF, c := 0x00, f := 0x03 })
    [] [0x89] [] (fun s => { s with a := 0x00, f := 0x57, pc := 0x0101, wait := 3 }) = true := by decide

/-- AR10 (R125): SUB A clears A. -/
theorem test_AR10_sub_a :
  vector .zero (fun s => { s with a := 0x3E })
    [] [0x97] [] (fun s => { s with a := 0x00, f := 0x46, pc := 0x0101, wait := 3 }) = true ∧
  vector .computed (fun s => { s with a := 0x3E })
    [] [0x97] [] (fun s => { s with a := 0x00, f := 0x56, pc := 0x0101, wait := 3 }) = true := by decide

/-- AR11 (R126): SBB B, borrow in. -/
theorem test_AR11_sbb_b :
  vector .zero (fun s => { s with a := 0x04, b := 0x02, f := 0x03 })
    [] [0x98] [] (fun s => { s with a := 0x01, f := 0x02, pc := 0x0101, wait := 3 }) = true ∧
  vector .computed (fun s => { s with a := 0x04, b := 0x02, f := 0x03 })
    [] [0x98] [] (fun s => { s with a := 0x01, f := 0x12, pc := 0x0101, wait := 3 }) = true := by decide

/-- AR14 (R127): CMP C; source S4. -/
theorem test_AR14_cmp_c :
  vector .zero (fun s => { s with a := 0x42, c := 0x42 })
    [] [0xB9] [] (fun s => { s with f := 0x46, pc := 0x0101, wait := 3 }) = true ∧
  vector .computed (fun s => { s with a := 0x42, c := 0x42 })
    [] [0xB9] [] (fun s => { s with f := 0x56, pc := 0x0101, wait := 3 }) = true := by decide

/-- AR15 (R127): CMP C, A < C. -/
theorem test_AR15_cmp_c :
  vectorBoth (fun s => { s with a := 0x02, c := 0x05 })
    [] [0xB9] [] (fun s => { s with f := 0x83, pc := 0x0101, wait := 3 }) = true := by decide

/-- AR16 (R127): CMP M, A > M. -/
theorem test_AR16_cmp_m :
  vector .zero (fun s => { s with a := 0x05, h := 0x30, l := 0x00 })
    [(0x3000, 0x02)] [0xBE] [] (fun s => { s with f := 0x06, pc := 0x0101, wait := 6 }) = true ∧
  vector .computed (fun s => { s with a := 0x05, h := 0x30, l := 0x00 })
    [(0x3000, 0x02)] [0xBE] [] (fun s => { s with f := 0x16, pc := 0x0101, wait := 6 }) = true := by decide

/-- AR17 (R128): ADI. -/
theorem test_AR17_adi :
  vector .zero (fun s => { s with a := 0xFF })
    [] [0xC6, 0x01] [] (fun s => { s with a := 0x00, f := 0x47, pc := 0x0102, wait := 6 }) = true ∧
  vector .computed (fun s => { s with a := 0xFF })
    [] [0xC6, 0x01] [] (fun s => { s with a := 0x00, f := 0x57, pc := 0x0102, wait := 6 }) = true := by decide

/-- AR18 (R129): ACI, CY in = 1. -/
theorem test_AR18_aci :
  vector .zero (fun s => { s with a := 0xFF, f := 0x03 })
    [] [0xCE, 0x00] [] (fun s => { s with a := 0x00, f := 0x47, pc := 0x0102, wait := 6 }) = true ∧
  vector .computed (fun s => { s with a := 0xFF, f := 0x03 })
    [] [0xCE, 0x00] [] (fun s => { s with a := 0x00, f := 0x57, pc := 0x0102, wait := 6 }) = true := by decide

/-- AR19 (R130): SUI: clean borrow rule, not the §9 bug (C6). -/
theorem test_AR19_sui :
  vectorBoth (fun s => { s with a := 0x00 })
    [] [0xD6, 0x01] [] (fun s => { s with a := 0xFF, f := 0x87, pc := 0x0102, wait := 6 }) = true := by decide

/-- AR20 (R130): SUI, no borrow. -/
theorem test_AR20_sui :
  vector .zero (fun s => { s with a := 0x05 })
    [] [0xD6, 0x03] [] (fun s => { s with a := 0x02, f := 0x02, pc := 0x0102, wait := 6 }) = true ∧
  vector .computed (fun s => { s with a := 0x05 })
    [] [0xD6, 0x03] [] (fun s => { s with a := 0x02, f := 0x12, pc := 0x0102, wait := 6 }) = true := by decide

/-- AR21 (R131): SBI, borrow in. -/
theorem test_AR21_sbi :
  vectorBoth (fun s => { s with a := 0x00, f := 0x03 })
    [] [0xDE, 0x00] [] (fun s => { s with a := 0xFF, f := 0x87, pc := 0x0102, wait := 6 }) = true := by decide

/-- AR22 (R132): CPI, operand low nibble 0. -/
theorem test_AR22_cpi :
  vector .zero (fun s => { s with a := 0x42 })
    [] [0xFE, 0x40] [] (fun s => { s with f := 0x02, pc := 0x0102, wait := 6 }) = true ∧
  vector .computed (fun s => { s with a := 0x42 })
    [] [0xFE, 0x40] [] (fun s => { s with f := 0x12, pc := 0x0102, wait := 6 }) = true := by decide

/-- AR23 (R132): CPI, A < d8. -/
theorem test_AR23_cpi :
  vector .zero (fun s => { s with a := 0x10 })
    [] [0xFE, 0x20] [] (fun s => { s with f := 0x87, pc := 0x0102, wait := 6 }) = true ∧
  vector .computed (fun s => { s with a := 0x10 })
    [] [0xFE, 0x20] [] (fun s => { s with f := 0x97, pc := 0x0102, wait := 6 }) = true := by decide

/-- AR24 (R133): INR A wraps; CY kept. -/
theorem test_AR24_inr_a :
  vector .zero (fun s => { s with a := 0xFF, f := 0x03 })
    [] [0x3C] [] (fun s => { s with a := 0x00, f := 0x47, pc := 0x0101, wait := 4 }) = true ∧
  vector .computed (fun s => { s with a := 0xFF, f := 0x03 })
    [] [0x3C] [] (fun s => { s with a := 0x00, f := 0x57, pc := 0x0101, wait := 4 }) = true := by decide

/-- AR25 (R133): INR B, half-carry. -/
theorem test_AR25_inr_b :
  vector .zero (fun s => { s with b := 0x0F })
    [] [0x04] [] (fun s => { s with b := 0x10, f := 0x02, pc := 0x0101, wait := 4 }) = true ∧
  vector .computed (fun s => { s with b := 0x0F })
    [] [0x04] [] (fun s => { s with b := 0x10, f := 0x12, pc := 0x0101, wait := 4 }) = true := by decide

/-- AR26 (R133): INR M. -/
theorem test_AR26_inr_m :
  vector .zero (fun s => { s with h := 0x30, l := 0x00 })
    [(0x3000, 0x7F)] [0x34] [(0x3000, 0x80)] (fun s => { s with f := 0x82, pc := 0x0101, wait := 9 }) = true ∧
  vector .computed (fun s => { s with h := 0x30, l := 0x00 })
    [(0x3000, 0x7F)] [0x34] [(0x3000, 0x80)] (fun s => { s with f := 0x92, pc := 0x0101, wait := 9 }) = true := by decide

/-- AR27 (R134): DCR C wraps; CY kept 0. -/
theorem test_AR27_dcr_c :
  vectorBoth (fun s => { s with c := 0x00 })
    [] [0x0D] [] (fun s => { s with c := 0xFF, f := 0x86, pc := 0x0101, wait := 4 }) = true := by decide

/-- AR28 (R134): DCR C to 0; CY kept 1. -/
theorem test_AR28_dcr_c :
  vector .zero (fun s => { s with c := 0x01, f := 0x03 })
    [] [0x0D] [] (fun s => { s with c := 0x00, f := 0x47, pc := 0x0101, wait := 4 }) = true ∧
  vector .computed (fun s => { s with c := 0x01, f := 0x03 })
    [] [0x0D] [] (fun s => { s with c := 0x00, f := 0x57, pc := 0x0101, wait := 4 }) = true := by decide

/-- AR30 (R134): DCR M. -/
theorem test_AR30_dcr_m :
  vectorBoth (fun s => { s with h := 0x30, l := 0x00 })
    [(0x3000, 0x80)] [0x35] [(0x3000, 0x7F)] (fun s => { s with f := 0x02, pc := 0x0101, wait := 9 }) = true := by decide

/-- AR31 (R135): INX B wraps; flags unaffected (D25). -/
theorem test_AR31_inx_b :
  vectorBoth (fun s => { s with b := 0xFF, c := 0xFF, f := 0xD7 })
    [] [0x03] [] (fun s => { s with b := 0x00, c := 0x00, f := 0xD7, pc := 0x0101, wait := 4 }) = true := by decide

/-- AR32 (R135): INX SP wraps; no stack check. -/
theorem test_AR32_inx_sp :
  vectorBoth (fun s => { s with sp := 0xFFFF })
    [] [0x33] [] (fun s => { s with f := 0x02, pc := 0x0101, sp := 0x0000, wait := 4 }) = true := by decide

/-- AR33 (R136): DCX D wraps. -/
theorem test_AR33_dcx_d :
  vectorBoth (fun s => { s with d := 0x00, e := 0x00 })
    [] [0x1B] [] (fun s => { s with d := 0xFF, e := 0xFF, f := 0x02, pc := 0x0101, wait := 4 }) = true := by decide

/-- AR34 (R136): DCX SP wraps; no stack check. -/
theorem test_AR34_dcx_sp :
  vectorBoth (fun s => { s with sp := 0x0000 })
    [] [0x3B] [] (fun s => { s with f := 0x02, pc := 0x0101, sp := 0xFFFF, wait := 4 }) = true := by decide

/-- AR35 (R137): DAD D; last step of source S2. -/
theorem test_AR35_dad_d :
  vectorBoth (fun s => { s with h := 0x12, l := 0x34, d := 0x11, e := 0x22 })
    [] [0x19] [] (fun s => { s with h := 0x23, l := 0x56, f := 0x02, pc := 0x0101, wait := 9 }) = true := by decide

/-- AR36 (R137): DAD H, carry out; Z, P unaffected. -/
theorem test_AR36_dad_h :
  vectorBoth (fun s => { s with h := 0x80, l := 0x00, f := 0x46 })
    [] [0x29] [] (fun s => { s with h := 0x00, f := 0x47, pc := 0x0101, wait := 9 }) = true := by decide

/-- AR39 (R138): DAA, example of rule R138. -/
theorem test_AR39_daa :
  vectorBoth (fun s => { s with a := 0x9B, params := { s.params with daaMode := .execute, acMode := .computed } })
    [] [0x27] [] (fun s => { s with a := 0x01, f := 0x13, pc := 0x0101, wait := 3 }) = true := by decide

/-! Logic, rotates and carry (95_test_vectors.md section 2) -/

/-- LG1 (R151): ANA B clears CY and AC. -/
theorem test_LG1_ana_b :
  vectorBoth (fun s => { s with a := 0xF0, b := 0x3C, f := 0x13 })
    [] [0xA0] [] (fun s => { s with a := 0x30, f := 0x06, pc := 0x0101, wait := 3 }) = true := by decide

/-- LG2 (R151): ANA M, result 0. -/
theorem test_LG2_ana_m :
  vectorBoth (fun s => { s with a := 0x0F, h := 0x30, l := 0x00 })
    [(0x3000, 0xF0)] [0xA6] [] (fun s => { s with a := 0x00, f := 0x46, pc := 0x0101, wait := 6 }) = true := by decide

/-- LG3 (R152): XRA A clears A. -/
theorem test_LG3_xra_a :
  vectorBoth (fun s => { s with a := 0x5A, f := 0x03 })
    [] [0xAF] [] (fun s => { s with a := 0x00, f := 0x46, pc := 0x0101, wait := 3 }) = true := by decide

/-- LG4 (R152): XRA D. -/
theorem test_LG4_xra_d :
  vectorBoth (fun s => { s with a := 0x0F, d := 0x01 })
    [] [0xAA] [] (fun s => { s with a := 0x0E, f := 0x02, pc := 0x0101, wait := 3 }) = true := by decide

/-- LG5 (R153): ORA C. -/
theorem test_LG5_ora_c :
  vectorBoth (fun s => { s with a := 0x80, c := 0x01, f := 0x13 })
    [] [0xB1] [] (fun s => { s with a := 0x81, f := 0x86, pc := 0x0101, wait := 3 }) = true := by decide

/-- LG6 (R154): ANI. -/
theorem test_LG6_ani :
  vectorBoth (fun s => { s with a := 0x3A, f := 0x03 })
    [] [0xE6, 0x0F] [] (fun s => { s with a := 0x0A, f := 0x06, pc := 0x0102, wait := 6 }) = true := by decide

/-- LG7 (R155): XRI, odd parity. -/
theorem test_LG7_xri :
  vectorBoth (fun s => { s with a := 0x01 })
    [] [0xEE, 0xFF] [] (fun s => { s with a := 0xFE, f := 0x82, pc := 0x0102, wait := 6 }) = true := by decide

/-- LG8 (R156): ORI, zero. -/
theorem test_LG8_ori :
  vectorBoth (fun s => { s with a := 0x00, f := 0x03 })
    [] [0xF6, 0x00] [] (fun s => { s with f := 0x46, pc := 0x0102, wait := 6 }) = true := by decide

/-- LG9 (R157): RLC; Z, P unaffected. -/
theorem test_LG9_rlc :
  vectorBoth (fun s => { s with a := 0x80, f := 0x46 })
    [] [0x07] [] (fun s => { s with a := 0x01, f := 0x47, pc := 0x0101, wait := 3 }) = true := by decide

/-- LG10 (R157): RLC, bit 7 = 0. -/
theorem test_LG10_rlc :
  vectorBoth (fun s => { s with a := 0x01, f := 0x03 })
    [] [0x07] [] (fun s => { s with a := 0x02, f := 0x02, pc := 0x0101, wait := 3 }) = true := by decide

/-- LG11 (R158): RRC. -/
theorem test_LG11_rrc :
  vectorBoth (fun s => { s with a := 0x01 })
    [] [0x0F] [] (fun s => { s with a := 0x80, f := 0x03, pc := 0x0101, wait := 3 }) = true := by decide

/-- LG13 (R159): RAL, CY in 0. -/
theorem test_LG13_ral :
  vectorBoth (fun s => { s with a := 0x80 })
    [] [0x17] [] (fun s => { s with a := 0x00, f := 0x03, pc := 0x0101, wait := 3 }) = true := by decide

/-- LG14 (R159): RAL, CY in 1. -/
theorem test_LG14_ral :
  vectorBoth (fun s => { s with a := 0x01, f := 0x03 })
    [] [0x17] [] (fun s => { s with a := 0x03, f := 0x02, pc := 0x0101, wait := 3 }) = true := by decide

/-- LG15 (R160): RAR, CY in 0. -/
theorem test_LG15_rar :
  vectorBoth (fun s => { s with a := 0x01 })
    [] [0x1F] [] (fun s => { s with a := 0x00, f := 0x03, pc := 0x0101, wait := 3 }) = true := by decide

/-- LG16 (R160): RAR, CY in 1. -/
theorem test_LG16_rar :
  vectorBoth (fun s => { s with a := 0x80, f := 0x03 })
    [] [0x1F] [] (fun s => { s with a := 0xC0, f := 0x02, pc := 0x0101, wait := 3 }) = true := by decide

/-- LG17 (R161): STC. -/
theorem test_LG17_stc :
  vectorBoth (fun s => s)
    [] [0x37] [] (fun s => { s with f := 0x03, pc := 0x0101, wait := 3 }) = true := by decide

/-- LG19 (R162): CMC 1 to 0. -/
theorem test_LG19_cmc :
  vectorBoth (fun s => { s with f := 0x03 })
    [] [0x3F] [] (fun s => { s with f := 0x02, pc := 0x0101, wait := 3 }) = true := by decide

/-- LG21 (R163): CMA; flags unaffected. -/
theorem test_LG21_cma :
  vectorBoth (fun s => { s with a := 0x51, f := 0x46 })
    [] [0x2F] [] (fun s => { s with a := 0xAE, f := 0x46, pc := 0x0101, wait := 3 }) = true := by decide

/-! Control flow (95_test_vectors.md section 2) -/

/-- CF1 (R170, R172): JNZ, cond true. -/
theorem test_CF1_jnz :
  vectorBoth (fun s => s)
    [] [0xC2, 0x00, 0x02] [] (fun s => { s with f := 0x02, pc := 0x0200, wait := 9 }) = true := by decide

/-- CF4 (R170, R172): JZ, cond false. -/
theorem test_CF4_jz :
  vectorBoth (fun s => s)
    [] [0xCA, 0x00, 0x02] [] (fun s => { s with f := 0x02, pc := 0x0103, wait := 9 }) = true := by decide

/-- CF5 (R170, R172): JNC, cond true. -/
theorem test_CF5_jnc :
  vectorBoth (fun s => s)
    [] [0xD2, 0x00, 0x02] [] (fun s => { s with f := 0x02, pc := 0x0200, wait := 9 }) = true := by decide

/-- CF8 (R170, R172): JC, cond false. -/
theorem test_CF8_jc :
  vectorBoth (fun s => s)
    [] [0xDA, 0x00, 0x02] [] (fun s => { s with f := 0x02, pc := 0x0103, wait := 9 }) = true := by decide

/-- CF9 (R170, R172): JPO, cond true. -/
theorem test_CF9_jpo :
  vectorBoth (fun s => s)
    [] [0xE2, 0x00, 0x02] [] (fun s => { s with f := 0x02, pc := 0x0200, wait := 9 }) = true := by decide

/-- CF12 (R170, R172): JPE, cond false. -/
theorem test_CF12_jpe :
  vectorBoth (fun s => s)
    [] [0xEA, 0x00, 0x02] [] (fun s => { s with f := 0x02, pc := 0x0103, wait := 9 }) = true := by decide

/-- CF13 (R170, R172): JP, cond true. -/
theorem test_CF13_jp :
  vectorBoth (fun s => s)
    [] [0xF2, 0x00, 0x02] [] (fun s => { s with f := 0x02, pc := 0x0200, wait := 9 }) = true := by decide

/-- CF16 (R170, R172): JM, cond false. -/
theorem test_CF16_jm :
  vectorBoth (fun s => s)
    [] [0xFA, 0x00, 0x02] [] (fun s => { s with f := 0x02, pc := 0x0103, wait := 9 }) = true := by decide

/-- CF17 (R171): JMP. -/
theorem test_CF17_jmp :
  vectorBoth (fun s => s)
    [] [0xC3, 0x00, 0x02] [] (fun s => { s with f := 0x02, pc := 0x0200, wait := 9 }) = true := by decide

/-- CF19 (R177): *JMP alias. -/
theorem test_CF19_alias_jmp :
  vectorBoth (fun s => s)
    [] [0xCB, 0x00, 0x02] [] (fun s => { s with f := 0x02, pc := 0x0200, wait := 9 }) = true := by decide

/-- CF21 (R173): CALL with SP = 2: lowest SP that pushes. -/
theorem test_CF21_call :
  vectorBoth (fun s => { s with sp := 0x0002 })
    [] [0xCD, 0x00, 0x30] [(0x0001, 0x03), (0x0002, 0x01)] (fun s => { s with f := 0x02, pc := 0x3000, sp := 0x0000, wait := 16 }) = true := by decide

/-- CF22 (R173): CALL with SP = 1. -/
theorem test_CF22_call :
  faultVector (fun s => { s with sp := 0x0001 })
    [] [0xCD, 0x00, 0x30] (.stackUnderflowProtection) 2 0x0100 (some 0xCD) (some 0x0001) = true := by decide

/-- CF24 (R178): *CALL 0xDD. -/
theorem test_CF24_alias_call :
  vectorBoth (fun s => s)
    [] [0xDD, 0x00, 0x30] [(0x23FF, 0x03), (0x2400, 0x01)] (fun s => { s with f := 0x02, pc := 0x3000, sp := 0x23FE, wait := 16 }) = true := by decide

/-- CF27 (R174): CC, CY = 1: taken (S5 corrected, C2). -/
theorem test_CF27_cc :
  vectorBoth (fun s => { s with f := 0x03 })
    [] [0xDC, 0x00, 0x30] [(0x23FF, 0x03), (0x2400, 0x01)] (fun s => { s with f := 0x03, pc := 0x3000, sp := 0x23FE, wait := 16 }) = true := by decide

/-- CF28 (R174): CC, Z = 1, CY = 0: not taken (S5 corrected). -/
theorem test_CF28_cc :
  vectorBoth (fun s => { s with f := 0x42 })
    [] [0xDC, 0x00, 0x30] [] (fun s => { s with f := 0x42, pc := 0x0103, wait := 10 }) = true := by decide

/-- CF29 (R174): 0xCC is CZ: Z = 1 takes it (C2). -/
theorem test_CF29_cz :
  vectorBoth (fun s => { s with f := 0x42 })
    [] [0xCC, 0x00, 0x30] [(0x23FF, 0x03), (0x2400, 0x01)] (fun s => { s with f := 0x42, pc := 0x3000, sp := 0x23FE, wait := 16 }) = true := by decide

/-- CF30 (R174): 0xCC (CZ) with Z = 0, CY = 1: not taken. -/
theorem test_CF30_cz :
  vectorBoth (fun s => { s with f := 0x03 })
    [] [0xCC, 0x00, 0x30] [] (fun s => { s with f := 0x03, pc := 0x0103, wait := 10 }) = true := by decide

/-- CF32 (R174): CNZ taken with SP = 1. -/
theorem test_CF32_cnz :
  faultVector (fun s => { s with sp := 0x0001 })
    [] [0xC4, 0x00, 0x30] (.stackUnderflowProtection) 2 0x0100 (some 0xC4) (some 0x0001) = true := by decide

/-- CF33 (R175): RET; undoes the CALL of CF20. -/
theorem test_CF33_ret :
  vectorBoth (fun s => { s with sp := 0x23FE })
    [(0x23FF, 0x03), (0x2400, 0x01)] [0xC9] [] (fun s => { s with f := 0x02, pc := 0x0103, sp := 0x2400, wait := 9 }) = true := by decide

/-- CF34 (R175): RET with SP = 0xFFFD: highest SP that pops. -/
theorem test_CF34_ret :
  vectorBoth (fun s => { s with sp := 0xFFFD })
    [(0xFFFE, 0x34), (0xFFFF, 0x12)] [0xC9] [] (fun s => { s with f := 0x02, pc := 0x1234, sp := 0xFFFF, wait := 9 }) = true := by decide

/-- CF37 (R176): RZ taken. -/
theorem test_CF37_rz :
  vectorBoth (fun s => { s with f := 0x42, sp := 0x23FE })
    [(0x23FF, 0x03), (0x2400, 0x01)] [0xC8] [] (fun s => { s with f := 0x42, pc := 0x0103, sp := 0x2400, wait := 10 }) = true := by decide

/-- CF38 (R176): RZ not taken. -/
theorem test_CF38_rz :
  vectorBoth (fun s => { s with sp := 0x23FE })
    [(0x23FF, 0x03), (0x2400, 0x01)] [0xC8] [] (fun s => { s with f := 0x02, pc := 0x0101, wait := 4 }) = true := by decide

/-- CF40 (R176): RC taken with SP = 0xFFFE. -/
theorem test_CF40_rc :
  faultVector (fun s => { s with f := 0x03, sp := 0xFFFE })
    [] [0xD8] (.stackPopOutOfRange) 3 0x0100 (some 0xD8) (some 0xFFFE) = true := by decide

/-- CF41 (R180): PCHL. -/
theorem test_CF41_pchl :
  vectorBoth (fun s => { s with h := 0x12, l := 0x34, params := { s.params with unlistedOps := .execute } })
    [] [0xE9] [] (fun s => { s with f := 0x02, pc := 0x1234, wait := 4 }) = true := by decide

/-- CF42 (R180): PCHL in the default UNLISTED_OPS = Fault. -/
theorem test_CF42_pchl :
  faultVector (fun s => { s with h := 0x12, l := 0x34 })
    [] [0xE9] (.undefinedOpcode) 1 0x0100 (some 0xE9) none = true := by decide

/-- CF43 (R181): RST 7; example of rule R181. -/
theorem test_CF43_rst_7 :
  vectorBoth (fun s => { s with params := { s.params with unlistedOps := .execute } })
    [] [0xFF] [(0x23FF, 0x01), (0x2400, 0x01)] (fun s => { s with f := 0x02, pc := 0x0038, sp := 0x23FE, wait := 10 }) = true := by decide

/-- CF44 (R181): RST 0. -/
theorem test_CF44_rst_0 :
  vectorBoth (fun s => { s with params := { s.params with unlistedOps := .execute } })
    [] [0xC7] [(0x23FF, 0x01), (0x2400, 0x01)] (fun s => { s with f := 0x02, pc := 0x0000, sp := 0x23FE, wait := 10 }) = true := by decide

/-- CF45 (R181): RST 5 with SP = 1. -/
theorem test_CF45_rst_5 :
  faultVector (fun s => { s with sp := 0x0001, params := { s.params with unlistedOps := .execute } })
    [] [0xEF] (.stackUnderflowProtection) 2 0x0100 (some 0xEF) (some 0x0001) = true := by decide

/-! Stack, I/O and machine control (95_test_vectors.md section 2) -/

/-- SM1 (R190): PUSH B; first half of source S6. -/
theorem test_SM1_push_b :
  vectorBoth (fun s => { s with b := 0xAA, c := 0xBB })
    [] [0xC5] [(0x23FF, 0xBB), (0x2400, 0xAA)] (fun s => { s with f := 0x02, pc := 0x0101, sp := 0x23FE, wait := 10 }) = true := by decide

/-- SM2 (R190): PUSH PSW: A high, F low. -/
theorem test_SM2_push_psw :
  vectorBoth (fun s => { s with a := 0x12, f := 0xD7 })
    [] [0xF5] [(0x23FF, 0xD7), (0x2400, 0x12)] (fun s => { s with f := 0xD7, pc := 0x0101, sp := 0x23FE, wait := 10 }) = true := by decide

/-- SM3 (R190): PUSH D with SP = 2. -/
theorem test_SM3_push_d :
  vectorBoth (fun s => { s with d := 0x12, e := 0x34, sp := 0x0002 })
    [] [0xD5] [(0x0001, 0x34), (0x0002, 0x12)] (fun s => { s with f := 0x02, pc := 0x0101, sp := 0x0000, wait := 10 }) = true := by decide

/-- SM4 (R190): PUSH H with SP = 1. -/
theorem test_SM4_push_h :
  faultVector (fun s => { s with h := 0x12, l := 0x34, sp := 0x0001 })
    [] [0xE5] (.stackUnderflowProtection) 2 0x0100 (some 0xE5) (some 0x0001) = true := by decide

/-- SM5 (R191): POP D; second half of source S6. -/
theorem test_SM5_pop_d :
  vectorBoth (fun s => { s with sp := 0x23FE })
    [(0x23FF, 0xBB), (0x2400, 0xAA)] [0xD1] [] (fun s => { s with d := 0xAA, e := 0xBB, f := 0x02, pc := 0x0101, sp := 0x2400, wait := 9 }) = true := by decide

/-- SM6 (R191): POP PSW forces bits 1, 3, 5. -/
theorem test_SM6_pop_psw :
  vectorBoth (fun s => { s with sp := 0x23FE })
    [(0x23FF, 0xFF), (0x2400, 0x42)] [0xF1] [] (fun s => { s with a := 0x42, f := 0xD7, pc := 0x0101, sp := 0x2400, wait := 9 }) = true := by decide

/-- SM8 (R191): POP B with SP = 0xFFFD. -/
theorem test_SM8_pop_b :
  vectorBoth (fun s => { s with sp := 0xFFFD })
    [(0xFFFE, 0x22), (0xFFFF, 0x11)] [0xC1] [] (fun s => { s with b := 0x11, c := 0x22, f := 0x02, pc := 0x0101, sp := 0xFFFF, wait := 9 }) = true := by decide

/-- SM9 (R191): POP B with SP = 0xFFFE. -/
theorem test_SM9_pop_b :
  faultVector (fun s => { s with sp := 0xFFFE })
    [] [0xC1] (.stackPopOutOfRange) 3 0x0100 (some 0xC1) (some 0xFFFE) = true := by decide

/-- SM11 (R192): XTHL (D22). -/
theorem test_SM11_xthl :
  vectorBoth (fun s => { s with h := 0xBE, l := 0xEF, sp := 0x23FE, params := { s.params with unlistedOps := .execute } })
    [(0x23FF, 0x34), (0x2400, 0x12)] [0xE3] [(0x23FF, 0xEF), (0x2400, 0xBE)] (fun s => { s with h := 0x12, l := 0x34, f := 0x02, pc := 0x0101, wait := 17 }) = true := by decide

/-- SM12 (R192): XTHL with SP = 0xFFFE. -/
theorem test_SM12_xthl :
  faultVector (fun s => { s with sp := 0xFFFE, params := { s.params with unlistedOps := .execute } })
    [] [0xE3] (.stackPopOutOfRange) 3 0x0100 (some 0xE3) (some 0xFFFE) = true := by decide

/-- SM14 (R193): SPHL. -/
theorem test_SM14_sphl :
  vectorBoth (fun s => { s with h := 0x30, l := 0x00, params := { s.params with unlistedOps := .execute } })
    [] [0xF9] [] (fun s => { s with f := 0x02, pc := 0x0101, sp := 0x3000, wait := 4 }) = true := by decide

/-- SM16 (R194): IN with the minimal collaborator io_in = 0. -/
theorem test_SM16_in :
  vectorBoth (fun s => { s with a := 0x77 })
    [] [0xDB, 0x02] [] (fun s => { s with a := 0x00, f := 0x02, pc := 0x0102, wait := 9 }) = true := by decide

/-- SM17 (R195): OUT. -/
theorem test_SM17_out :
  vectorBoth (fun s => { s with a := 0x48 })
    [] [0xD3, 0x01] [] (fun s => { s with f := 0x02, pc := 0x0102, ioLog := [(0x01, 0x48)], wait := 9 }) = true := by decide

/-- SM18 (R196): HLT. -/
theorem test_SM18_hlt :
  vectorBoth (fun s => s)
    [] [0x76] [] (fun s => { s with f := 0x02, pc := 0x0101, run := .halted }) = true := by decide

/-- SM22 (R199): EI. -/
theorem test_SM22_ei :
  vectorBoth (fun s => { s with params := { s.params with unlistedOps := .execute } })
    [] [0xFB] [] (fun s => { s with f := 0x02, pc := 0x0101, inte := true, wait := 3 }) = true := by decide

/-- SM23 (R200): DI. -/
theorem test_SM23_di :
  vectorBoth (fun s => { s with inte := true, params := { s.params with unlistedOps := .execute } })
    [] [0xF3] [] (fun s => { s with f := 0x02, pc := 0x0101, inte := false, wait := 3 }) = true := by decide

/-- SM24 (R199): EI in the default UNLISTED_OPS = Fault. -/
theorem test_SM24_ei :
  faultVector (fun s => s)
    [] [0xFB] (.undefinedOpcode) 1 0x0100 (some 0xFB) none = true := by decide

/-! Faults (95_test_vectors.md section 2) -/

/-- FT15 (R217): LDA beyond memory. -/
theorem test_FT15_lda :
  faultVector (fun s => { s with pc := 0x0000, params := { s.params with memSize := 0x0100 } })
    [] [0x3A, 0x00, 0x02] (.memoryOutOfRange) 4 0x0000 (some 0x3A) (some 0x0200) = true := by decide

/-- FT17 (R217): MOV A,M beyond memory. -/
theorem test_FT17_mov_a_m :
  faultVector (fun s => { s with h := 0x01, l := 0x00, pc := 0x0000, params := { s.params with memSize := 0x0100 } })
    [] [0x7E] (.memoryOutOfRange) 4 0x0000 (some 0x7E) (some 0x0100) = true := by decide

/-- FT20 (R216): LXI B whose last byte would be at 0x0100. -/
theorem test_FT20_lxi_b :
  faultVector (fun s => { s with pc := 0x00FE, params := { s.params with memSize := 0x0100 } })
    [] [0x01, 0x34] (.memoryOutOfRange) 4 0x00FE (some 0x01) (some 0x0100) = true := by decide

/-- FT22 (R216): opcode fetch at MEM_SIZE (the state FT21 leaves); no byte exists there. -/
theorem test_FT22_no_byte :
  faultVector (fun s => { s with params := { s.params with memSize := 0x0100 } })
    [] [] (.memoryOutOfRange) 4 0x0100 none (some 0x0100) = true := by decide

/-- FT23 (R216): NOP at 0xFFFF. -/
theorem test_FT23_nop :
  faultVector (fun s => { s with pc := 0xFFFF })
    [] [0x00] (.pcOverflow) 5 0xFFFF none (some 0xFFFF) = true := by decide

/-- FT25 (R216): MVI A whose operand is at 0xFFFF. -/
theorem test_FT25_mvi_a :
  faultVector (fun s => { s with pc := 0xFFFE })
    [] [0x3E, 0x01] (.pcOverflow) 5 0xFFFE (some 0x3E) (some 0xFFFF) = true := by decide

/-- FT27 (R216): NOP at 0xFFFE: allowed, PC becomes 0xFFFF. -/
theorem test_FT27_nop :
  vectorBoth (fun s => { s with pc := 0xFFFE })
    [] [0x00] [] (fun s => { s with f := 0x02, pc := 0xFFFF, wait := 3 }) = true := by decide

/-- FT30 (R218): PUSH with SP = 1 and MEM_SIZE = 0x100: the SP check comes before the write. -/
theorem test_FT30_push_b :
  faultVector (fun s => { s with sp := 0x0001, pc := 0x0000, params := { s.params with memSize := 0x0100 } })
    [] [0xC5] (.stackUnderflowProtection) 2 0x0000 (some 0xC5) (some 0x0001) = true := by decide

end Sys2Proof.Tests
end

section
/-! PROOFS. What one instruction answers, and what it does to `run` (00_scope.md R15, 60_exceptions.md section 1). -/

namespace Sys2Proof.Machine

/-- Everything an instruction can do, at every state: it completes with what its body answers, or it takes a fault at the state
before it (UndefinedOpcode, or what its body raises). -/
theorem exec_completes_or_faults (i : Instr) (s : State) :
    (∃ t r, bodyOf i (advancePc (lenOf i) s) = .ok (t, r) ∧ exec i s = .next (retire i r t)) ∨
    ∃ x, exec i s = .next (takeFault (some (opcodeOf i)) x s) := by
  cases hm : hasMeaning s.params i with
  | false => exact .inr ⟨_, exec_undefined hm⟩
  | true =>
    cases hb : bodyOf i (advancePc (lenOf i) s) with
    | ok p => exact .inl ⟨p.1, p.2, rfl, exec_ok hm hb⟩
    | error x => exact .inr ⟨x, exec_error hm hb⟩

/-- No body writes `run`: only the end of the instruction does. -/
theorem bodyOf_run {i : Instr} {s t : State} {r : HandlerResult} (h : bodyOf i (advancePc (lenOf i) s) = .ok (t, r)) :
    t.run = s.run := by
  rw [bodyOf_eq_body] at h
  exact (body_frame h).run

/-- The end of an instruction leaves `run` as it was or halts. -/
theorem retire_run (i : Instr) (r : HandlerResult) (s : State) :
    (retire i r s).run = s.run ∨ (retire i r s).run = .halted := by
  cases r with
  | primary | alternate => exact .inl rfl
  | halt => exact .inr rfl

/-- Settles O46: an instruction completes, and its end keeps `run` or halts, or it takes a fault, which is a next state. -/
theorem everyInstructionAnswersNext : Obligations.EveryInstructionAnswersNext := by
  intro i s
  rcases exec_completes_or_faults i s with ⟨t, r, hb, he⟩ | ⟨x, he⟩
  · refine ⟨_, he, ?_⟩
    rcases retire_run i r t with h | h
    · exact .inl (h.trans (bodyOf_run hb))
    · exact .inr (.inl h)
  · exact ⟨_, he, .inr (.inr ⟨_, takeFault_run ..⟩)⟩

end Sys2Proof.Machine
end

section
/-! PROOFS. Launch: what an accepted launch leaves (70_reset_and_hazards.md R240, R241). -/

namespace Sys2Proof.Machine

/-- An accepted launch: the parameters are permitted, the image fits, and the state is the launch state over INIT_MEM below
MEM_SIZE with the image written over it. -/
theorem launch_inv {p : Params} {initMem : List Host.Cell} {image : List Byte} {s : State}
    (h : launch p initMem image = .next s) :
    p.wf = true ∧ p.imageFits image = true ∧
      s = State.atLaunch p (writeBytes (writeCells [] (initMem.filter fun c => decide (c.1 < p.memSize)))
        p.loadOffset.toNat image) := by
  unfold launch at h
  split at h
  · split at h
    · cases h
      exact ⟨by assumption, by assumption, rfl⟩
    · cases h
  · cases h

/-- Every flag of F is 0 at reset (10_state.md R41). -/
theorem flagValue_resetF (n : FlagName) : flagValue n 0x02 = false := by
  cases n <;> decide

/-- Settles O1: an accepted launch leaves a launch state, and its registers do not depend on the memory. -/
theorem launchGivesResetRegisters : Obligations.LaunchGivesResetRegisters := by
  intro p initMem image s h
  obtain ⟨_, _, rfl⟩ := launch_inv h
  exact ⟨rfl, rfl, rfl, rfl, rfl, rfl, rfl, rfl, flagValue_resetF .s, flagValue_resetF .z, flagValue_resetF .ac,
    flagValue_resetF .p, flagValue_resetF .cy, rfl, rfl, rfl, rfl, rfl, rfl, rfl⟩

end Sys2Proof.Machine
end

section
/-! PROOFS. Register pairs, the PSW, and the bits of F (10_state.md R26 to R32). -/

namespace Sys2Proof.Machine

/-! ### Register pairs -/

@[simp] theorem rp16_setrp16_same (p : Pair) (v : Word) (s : State) : rp16 p (setrp16 p v s) = v := by
  cases p with
  | bc | de | hl => exact joinBytes_hi_lo v
  | sp => rfl

theorem rp16_setrp16_other {p q : Pair} (v : Word) (s : State) (h : q ≠ p) : rp16 q (setrp16 p v s) = rp16 q s := by
  cases p <;> cases q <;> first | exact absurd rfl h | rfl

/-- Settles O13: a pair reads back what was written, as joining undoes splitting; two pairs share no register. -/
theorem pairReadAfterWrite : Obligations.PairReadAfterWrite := fun p v s =>
  ⟨rp16_setrp16_same p v s, fun _ h => rp16_setrp16_other v s h, rfl, rfl, rfl, rfl, rfl, rfl, rfl, rfl, rfl, rfl,
    joinBytes_hi_lo v⟩

/-! ### The PSW -/

/-- `norm` keeps the five flags (10_state.md R31). -/
@[simp] theorem flagValue_normF (n : FlagName) (x : Byte) : flagValue n (normF x) = flagValue n x := by
  cases n <;> simp [flagValue, flagS, flagZ, flagAC, flagP, flagCY, normF]

/-- `norm` changes nothing of a byte whose fixed bits are 1, 0, 0: the two masks cover the byte. -/
theorem normF_eq_self {x : Byte} (h : x &&& 0x2A = 0x02) : normF x = x :=
  calc normF x = (x &&& 0xD5) ||| (x &&& 0x2A) := by rw [h]; rfl
    _ = x &&& (0xD5 ||| 0x2A) := BitVec.and_or_distrib_left.symm
    _ = x := BitVec.and_allOnes

/-- Writing back the PSW that was read changes nothing when F has its fixed bits. -/
theorem setpsw16_psw16 {s : State} (h : s.flagsFixed) : setpsw16 (psw16 s) s = s := by
  simp only [setpsw16, psw16, hi_joinBytes, lo_joinBytes, normF_eq_self h]

/-- Settles O14: F takes the low byte through `norm`, which forces the fixed bits and keeps the flags. -/
theorem pswWriteForcesFixedBits : Obligations.PswWriteForcesFixedBits := fun v _ =>
  ⟨rfl, rfl, rfl, normF_fixed (lo v), fun n => flagValue_normF n (lo v), setpsw16_psw16⟩

/-! ### The bits of F -/

/-- A byte is the sum of its bits, each read off by halving. -/
theorem toNat_eq_sum_bits (x : Byte) :
    x.toNat = (x.getLsbD 7).toNat * 128 + (x.getLsbD 6).toNat * 64 + (x.getLsbD 5).toNat * 32 + (x.getLsbD 4).toNat * 16 +
      (x.getLsbD 3).toNat * 8 + (x.getLsbD 2).toNat * 4 + (x.getLsbD 1).toNat * 2 + (x.getLsbD 0).toNat := by
  have := x.isLt
  simp only [BitVec.getLsbD, Nat.toNat_testBit, Nat.pow_succ, Nat.pow_zero, ← Nat.div_div_eq_div_mul]
  omega

/-- Bits 1, 3, 5 of a byte with its fixed bits. -/
theorem getLsbD_of_fixed {f : Byte} (h : f &&& 0x2A = 0x02) :
    f.getLsbD 1 = true ∧ f.getLsbD 3 = false ∧ f.getLsbD 5 = false := by
  have bit (j : Nat) : (f.getLsbD j && (0x2A#8).getLsbD j) = (0x02#8).getLsbD j := by
    rw [← BitVec.getLsbD_and]
    exact congrArg (·.getLsbD j) h
  exact ⟨by simpa using bit 1, by simpa using bit 3, by simpa using bit 5⟩

/-- Settles O15: F is the sum of its bits, of which the fixed ones are 1, 0, 0; a flag write is a write of one bit. -/
theorem flagWritesChangeOneBit : Obligations.FlagWritesChangeOneBit := by
  refine ⟨fun f h => ?_, fun v f j hj => ⟨?_, ?_, ?_, ?_, ?_⟩⟩
  · obtain ⟨h1, h3, h5⟩ := getLsbD_of_fixed h
    rw [toNat_eq_sum_bits f, h1, h3, h5]
    simp only [flagS, flagZ, flagAC, flagP, flagCY, Bool.toNat_true, Bool.toNat_false]
    omega
  all_goals exact getLsbD_setBit _ v f j (by omega) hj

/-! ### The standard flag update -/

theorem flagS_szp (r f : Byte) : flagS (szp r f) = r.getLsbD 7 := by simp [szp, setP, setS, setZ]
theorem flagZ_szp (r f : Byte) : flagZ (szp r f) = (r == 0) := by simp [szp, setP, setS, setZ]
theorem flagP_szp (r f : Byte) : flagP (szp r f) = (popcount r % 2 == 0) := by simp [szp, setP]
theorem flagAC_szp (r f : Byte) : flagAC (szp r f) = flagAC f := by simp [szp, setP, setS, setZ]
theorem flagCY_szp (r f : Byte) : flagCY (szp r f) = flagCY f := by simp [szp, setP, setS, setZ]

/-- The count of 1 bits of a byte, bit by bit (00_scope.md R12). -/
theorem popcount_eq_sum_bits (v : Byte) :
    popcount v = (v.getLsbD 0).toNat + (v.getLsbD 1).toNat + (v.getLsbD 2).toNat + (v.getLsbD 3).toNat +
      (v.getLsbD 4).toNat + (v.getLsbD 5).toNat + (v.getLsbD 6).toNat + (v.getLsbD 7).toNat := by
  have range8 : List.range 8 = [0, 1, 2, 3, 4, 5, 6, 7] := rfl
  simp only [popcount, range8, ← List.countP_eq_length_filter, List.countP_cons, List.countP_nil, Bool.toNat, Bool.cond_eq_ite]
  ring

/-- Bit 7 of a byte is set from 128 upward. -/
theorem getLsbD_seven (r : Byte) : r.getLsbD 7 = true ↔ 128 ≤ r.toNat := by
  have h : r.getLsbD 7 = decide (128 ≤ r.toNat) := BitVec.msb_eq_decide r
  rw [h, decide_eq_true_iff]

/-- Settles O16: Z, S and P read through the three writes of `szp`, and parity is that of the sum of the bits. -/
theorem standardFlagUpdate : Obligations.StandardFlagUpdate := by
  intro r f
  rw [flagZ_szp, flagS_szp, flagP_szp, popcount_eq_sum_bits, beq_iff_eq, beq_iff_eq]
  exact ⟨BitVec.toNat_inj.symm, getLsbD_seven r, Iff.rfl, flagAC_szp r f, flagCY_szp r f, szp_fixed r f⟩

end Sys2Proof.Machine
end

section
/-! PROOFS. A step keeps the invariant: paying an owed cycle, taking a fault, and completing an instruction each do. -/

namespace Sys2Proof.Machine

/-- A Running state that pays an owed cycle keeps the invariant. -/
theorem State.Inv.payCycle {s : State} (hi : s.Inv) (hr : s.run = .running) : State.Inv { s with wait := s.wait - 1 } :=
  { hi with waitStopped := fun hn => absurd hr hn }

/-- A fault taken by a state that owes no cycles keeps the invariant (60_exceptions.md R212). -/
theorem State.Inv.takeFault {s : State} (hi : s.Inv) (hw : s.wait = 0) (op : Option Byte) (x : Raise) :
    (Machine.takeFault op x s).Inv :=
  { hi with waitStopped := fun _ => hw }

/-- A body keeps the fixed bits of F: POP PSW forces them, every other form leaves them as they were (10_state.md R31). -/
theorem BodyFrame.flagsFixed {F : Form} {s t : State} {r : HandlerResult} (hb : BodyFrame F s t r) (hs : s.flagsFixed) :
    t.flagsFixed := by
  by_cases hF : F = .pop .psw
  · exact hb.forced hF
  · exact (hb.fixed hF).trans hs

/-- EI and DI have no meaning where INTE does not exist (30_encoding.md R85, 10_state.md R40). -/
theorem formOf_not_interrupt {i : Instr} {p : Params} (hm : hasMeaning p i = true) (hu : p.unlistedOps = .fault) :
    formOf i ≠ .enableInt ∧ formOf i ≠ .disableInt := by
  rw [hasMeaning_eq] at hm
  constructor <;> intro hF <;> simp [hF, Form.avail, hu] at hm

/-- A body run by an instruction that has a meaning keeps the invariant. -/
theorem bodyOf_keeps_inv {i : Instr} {s t : State} {r : HandlerResult} (hi : s.Inv) (hm : hasMeaning s.params i = true)
    (hb : bodyOf i (advancePc (lenOf i) s) = .ok (t, r)) : t.Inv := by
  rw [bodyOf_eq_body] at hb
  have hf := body_frame hb
  have hp : t.params = s.params := hf.params
  refine ⟨hf.memWf hi.memCanonical, ?_, hf.flagsFixed hi.flags, ?_, ?_, ?_⟩
  · rw [hp]
    exact hf.memBounded hi.memBounded
  · rw [hp]
    exact hi.params
  · rw [hf.run, hf.wait]
    exact hi.waitStopped
  · rw [hp]
    intro hu
    obtain ⟨he, hd⟩ := formOf_not_interrupt hm hu
    exact (hf.inte he hd).trans (hi.inteAbsent hu)

/-- The end of an instruction keeps the invariant: Primary and Alternate leave the core Running, and Halt primes no cycles. -/
theorem State.Inv.retire {s : State} (hi : s.Inv) (hr : s.run = .running) (hw : s.wait = 0) (i : Instr) (r : HandlerResult) :
    (Machine.retire i r s).Inv := by
  cases r with
  | primary | alternate => exact { hi with waitStopped := fun hn => absurd hr hn }
  | halt => exact { hi with waitStopped := fun _ => hw }

/-- An instruction run from a Running state that owes no cycles keeps the invariant. -/
theorem exec_keeps_inv {i : Instr} {s t : State} (hi : s.Inv) (hr : s.run = .running) (hw : s.wait = 0)
    (he : exec i s = .next t) : t.Inv := by
  rw [exec_eq_runInstr] at he
  rcases runInstr_cases he with ⟨hm, u, r, hb, rfl⟩ | ⟨_, x, _, rfl⟩ | ⟨_, rfl⟩
  · have hu := bodyOf_keeps_inv hi hm hb
    rw [bodyOf_eq_body] at hb
    exact hu.retire ((body_frame hb).run.trans hr) ((body_frame hb).wait.trans hw) i r
  · exact hi.takeFault hw ..
  · exact hi.takeFault hw ..

/-- Settles O56: a step pays an owed cycle, takes the fault of its fetch, or runs the fetched instruction, and each keeps the
invariant. -/
theorem stepKeepsInvariant : Obligations.StepKeepsInvariant := by
  intro s t hi h
  obtain ⟨hr, ⟨_, rfl⟩ | ⟨hw, op, x, _, rfl⟩ | ⟨hw, i, _, he⟩⟩ := step_cases h
  · exact hi.payCycle hr
  · exact hi.takeFault hw op x
  · exact exec_keeps_inv hi hr hw he

end Sys2Proof.Machine
end

section
/-! PROOFS. `wait` and INTE are written and never read: a body run from a state with other values of both raises the same, or
answers the same state but for those two (10_state.md R39, R40; 70_reset_and_hazards.md R253). -/

namespace Sys2Proof.Machine

/-- The state with other values of `wait` and INTE. -/
def State.withWaitInte (w : Nat) (b : Bool) (s : State) : State := { s with wait := w, inte := b }

/-- What a body answers, with other values of `wait` and INTE in the state it leaves. -/
def answerWithWaitInte (w : Nat) (b : Bool) : Except Raise (State × HandlerResult) → Except Raise (State × HandlerResult) :=
  Except.map fun p => (p.1.withWaitInte w b, p.2)

/-- A body reads neither `wait` nor INTE and writes neither: it commutes with every change of the two. -/
def Body.Blind (f : Body) : Prop := ∀ w b s, f (s.withWaitInte w b) = answerWithWaitInte w b (f s)

/-! ### The operations a body is made of -/

theorem memRead_withWaitInte (a : Nat) (w : Nat) (b : Bool) (s : State) : memRead a (s.withWaitInte w b) = memRead a s := rfl

theorem r8_withWaitInte (r : Reg8) (w : Nat) (b : Bool) (s : State) : r8 r (s.withWaitInte w b) = r8 r s := by
  cases r <;> rfl

theorem memWrite_withWaitInte (a : Nat) (v : Byte) (w : Nat) (b : Bool) (s : State) :
    memWrite a v (s.withWaitInte w b) = (memWrite a v s).map (·.withWaitInte w b) := by
  unfold memWrite
  rw [apply_ite (Except.map _)]
  rfl

theorem w8_withWaitInte (r : Reg8) (v : Byte) (w : Nat) (b : Bool) (s : State) :
    w8 r v (s.withWaitInte w b) = (w8 r v s).map (·.withWaitInte w b) := by
  cases r with
  | m => exact memWrite_withWaitInte (hlAddr s) v w b s
  | b | c | d | e | h | l | a => rfl

theorem push16_withWaitInte (v : Word) (w : Nat) (b : Bool) (s : State) :
    push16 v (s.withWaitInte w b) = (push16 v s).map (·.withWaitInte w b) := by
  rw [push16_eq, push16_eq, apply_ite (Except.map _), apply_ite (Except.map _)]
  rfl

theorem pop16_withWaitInte (w : Nat) (b : Bool) (s : State) :
    pop16 (s.withWaitInte w b) = (pop16 s).map fun p => (p.1, p.2.withWaitInte w b) := by
  rw [pop16_eq, pop16_eq, apply_ite (Except.map _), apply_ite (Except.map _)]
  rfl

/-! ### How a body is put together -/

/-- A body that goes on with a value it reads. -/
theorem Body.Blind.read {α : Type} {g : State → Except Raise α} {k : α → Body}
    (hg : ∀ w b s, g (s.withWaitInte w b) = g s) (hk : ∀ v, (k v).Blind) : Body.Blind (fun s => do k (← g s) s) := by
  intro w b s
  simp only [hg]
  cases g s with
  | ok v => exact hk v w b s
  | error x => rfl

/-- A body that goes on from a state it writes. -/
theorem Body.Blind.write {g : State → Except Raise State} {k : Body}
    (hg : ∀ w b s, g (s.withWaitInte w b) = (g s).map (·.withWaitInte w b)) (hk : k.Blind) :
    Body.Blind (fun s => do k (← g s)) := by
  intro w b s
  simp only [hg]
  cases g s with
  | ok t => exact hk w b t
  | error x => rfl

/-- A body that goes on with the word it pops, from the state the pop leaves. -/
theorem Body.Blind.popped {k : Word × State → Except Raise (State × HandlerResult)}
    (hk : ∀ v, Body.Blind fun s => k (v, s)) : Body.Blind (fun s => do k (← pop16 s)) := by
  intro w b s
  simp only [pop16_withWaitInte]
  cases pop16 s with
  | ok p => exact hk p.1 w b p.2
  | error x => rfl

/-- A body that branches on a test of the rest of the state. -/
theorem Body.Blind.ite {c : State → Prop} [DecidablePred c] {f g : Body} (hc : ∀ w b s, c (s.withWaitInte w b) ↔ c s)
    (hf : f.Blind) (hg : g.Blind) : Body.Blind fun s => if c s then f s else g s := by
  intro w b s
  by_cases h : c s
  · simp only [hc, h, if_true, hf w b s]
  · simp only [hc, h, if_false, hg w b s]

/-! ### The bodies -/

theorem call_blind (v : Word) : (call v).Blind :=
  .write (fun w b s => push16_withWaitInte s.pc w b s) fun _ _ _ => rfl

theorem ret_blind : Body.Blind ret := .popped fun _ _ _ _ => rfl

theorem xthl_blind : Body.Blind xthl :=
  .ite (fun _ _ _ => .rfl) (fun _ _ _ => rfl) <|
    .read (fun _ _ _ => rfl) fun _ => .read (fun _ _ _ => rfl) fun _ =>
      .write (fun w b s => memWrite_withWaitInte _ s.l w b s) <|
        .write (fun w b s => memWrite_withWaitInte _ s.h w b s) fun _ _ _ => rfl

theorem input_blind (v : Byte) : (input v).Blind := by
  intro w b s
  simp only [input, ioInput, State.withWaitInte]
  cases s.params.io <;> rfl

/-- Every form but EI and DI reads neither `wait` nor INTE and writes neither. -/
theorem body_blind {F : Form} (he : F ≠ .enableInt) (hd : F ≠ .disableInt) : F.body.Blind := by
  cases F
  case mov dst src => exact .read (r8_withWaitInte src) fun v => .write (w8_withWaitInte dst v) fun _ _ _ => rfl
  case mvi dst v => exact .write (w8_withWaitInte dst v) fun _ _ _ => rfl
  case inr r | dcr r =>
    exact .read (r8_withWaitInte r) fun v => .write (w8_withWaitInte r _) fun _ _ _ => rfl
  case lxi p _ | inx p | dcx p | dad p => cases p <;> exact fun _ _ _ => rfl
  case lda v => exact .read (memRead_withWaitInte v.toNat) fun _ _ _ _ => rfl
  case lhld v =>
    exact .read (memRead_withWaitInte v.toNat) fun _ => .read (memRead_withWaitInte (v.toNat + 1)) fun _ _ _ _ => rfl
  case ldax p => cases p <;> exact .read (fun _ _ _ => rfl) fun _ _ _ _ => rfl
  case sta v => exact .write (fun w b s => memWrite_withWaitInte v.toNat s.a w b s) fun _ _ _ => rfl
  case stax p => cases p <;> exact .write (fun w b s => memWrite_withWaitInte _ s.a w b s) fun _ _ _ => rfl
  case shld v =>
    exact .write (fun w b s => memWrite_withWaitInte v.toNat s.l w b s) <|
      .write (fun w b s => memWrite_withWaitInte (v.toNat + 1) s.h w b s) fun _ _ _ => rfl
  case aluReg op r => cases op <;> exact .read (r8_withWaitInte r) fun _ _ _ _ => rfl
  case aluImm op v => cases op <;> exact fun _ _ _ => rfl
  case jumpIf k v => exact .ite (fun _ _ _ => .rfl) (fun _ _ _ => rfl) fun _ _ _ => rfl
  case call v => exact call_blind v
  case rst n => exact call_blind _
  case callIf k v => exact .ite (fun _ _ _ => .rfl) (call_blind v) fun _ _ _ => rfl
  case ret => exact ret_blind
  case retIf k => exact .ite (fun _ _ _ => .rfl) ret_blind fun _ _ _ => rfl
  case push p => cases p <;> exact .write (fun w b s => push16_withWaitInte _ w b s) fun _ _ _ => rfl
  case pop p => cases p <;> exact .popped fun _ _ _ _ => rfl
  case xthl => exact xthl_blind
  case input v => exact input_blind v
  case enableInt => exact absurd rfl he
  case disableInt => exact absurd rfl hd
  case xchg | daa | rlc | rrc | ral | rar | stc | cmc | cma | jump | pchl | sphl | output | halt | noOp =>
    exact fun _ _ _ => rfl

/-! ### The instructions -/

/-- Every body answers from other values of `wait` and INTE what it answered, with some value of INTE: the one given, or the one
EI or DI writes. -/
theorem bodyOf_withWaitInte (i : Instr) (w : Nat) (b : Bool) (s : State) :
    ∃ c, bodyOf i (s.withWaitInte w b) = answerWithWaitInte w c (bodyOf i s) := by
  rw [bodyOf_eq_body]
  by_cases he : formOf i = .enableInt
  · rw [he]
    exact ⟨true, rfl⟩
  · by_cases hd : formOf i = .disableInt
    · rw [hd]
      exact ⟨false, rfl⟩
    · exact ⟨b, body_blind he hd w b s⟩

/-- The end of an instruction, but for the two, is the same from states that differ in the two. -/
theorem retire_withWaitInte (i : Instr) (r : HandlerResult) (w : Nat) (b : Bool) (s : State) :
    (retire i r (s.withWaitInte w b)).withWaitInte (retire i r s).wait (retire i r s).inte = retire i r s := by
  cases r <;> rfl

/-- Settles O50: with other values of `wait` and INTE an instruction has a meaning where it had one, and its body raises the same
or answers the same but for the two. -/
theorem waitAndInteAreNotRead : Obligations.WaitAndInteAreNotRead := by
  intro i s t w b h
  rw [exec_eq_runInstr] at h
  obtain ⟨c, hc⟩ := bodyOf_withWaitInte i w b (advancePc (lenOf i) s)
  rcases runInstr_cases h with ⟨hm, u, r, hb, rfl⟩ | ⟨hm, x, hb, rfl⟩ | ⟨hm, rfl⟩
  · rw [hb] at hc
    exact ⟨_, exec_ok hm hc, retire_withWaitInte i r w c u⟩
  · rw [hb] at hc
    exact ⟨_, exec_error hm hc, rfl⟩
  · exact ⟨_, exec_undefined hm, rfl⟩

end Sys2Proof.Machine
end


section
/-! PROOFS. The stack primitives: what `push16` raises and what it leaves (20_memory.md R60). -/

namespace Sys2Proof.Machine

/-- The guard of a push comes before memory is touched (20_memory.md R60). -/
theorem push16_underflow (v : Word) {s : State} (h : s.sp.toNat ≤ 1) :
    push16 v s = .error { kind := .stackUnderflowProtection, detail := some s.sp.toNat } := by
  rw [push16_eq, if_pos h]

/-- Past the guard, the high byte's address, the old SP, is the one that can lie beyond memory. -/
theorem push16_outOfRange (v : Word) {s : State} (h2 : 2 ≤ s.sp.toNat) (hm : s.params.memSize ≤ s.sp.toNat) :
    push16 v s = .error { kind := .memoryOutOfRange, detail := some s.sp.toNat } := by
  rw [push16_eq, if_neg (Nat.not_le.2 h2), if_pos hm]

/-- Settles O9: each clause is one branch of `push16_eq`: the guard, the old SP beyond memory, and a push that finds room. -/
theorem pushWritesTwoBytes : Obligations.PushWritesTwoBytes :=
  fun v _ => ⟨push16_underflow v, push16_outOfRange v, push16_ok⟩

end Sys2Proof.Machine
end

section
/-! PROOFS. Data movement (40_data_movement.md): what MOV, MVI, LXI, the loads and stores and XCHG answer. What a body answers is
read off its first operation, and `exec_primary` and `exec_raises` carry it to the instruction. -/

namespace Sys2Proof.Machine

/-! ### From the operations to the body -/

/-- A body goes on with the value its first operation answers. -/
theorem bind_of_ok {α β : Type} {e : Except Raise α} {v : α} (h : e = .ok v) (f : α → Except Raise β) :
    (do let v ← e; f v) = f v := by
  rw [h]
  rfl

/-- A body raises what its first operation raises. -/
theorem bind_of_error {α β : Type} {e : Except Raise α} {x : Raise} (h : e = .error x) (f : α → Except Raise β) :
    (do let v ← e; f v) = .error x := by
  rw [h]
  rfl

/-! ### From the body of a form to the instruction -/

/-- An instruction of a form that always has a meaning (30_encoding.md R85) completes when the form's body answers Primary. -/
theorem exec_primary (F : Form) {i : Instr} {s t : State} (hF : formOf i = F) (ha : F.avail = .always)
    (hb : F.body (advancePc F.bytes s) = .ok (t, .primary)) : exec i s = .next { t with wait := F.dur - 1 } := by
  subst hF
  rw [← bodyOf_eq_body, ← lenOf_eq_bytes] at hb
  rw [exec_ok (by rw [hasMeaning_eq, ha]) hb, retire, durOf_eq_dur]

/-- An instruction of a form that always has a meaning faults when the form's body raises (60_exceptions.md R212). -/
theorem exec_raises (F : Form) {i : Instr} {s : State} {x : Raise} (hF : formOf i = F) (ha : F.avail = .always)
    (hb : F.body (advancePc F.bytes s) = .error x) : exec i s = .next (faultedAt i s x.kind x.detail) := by
  subst hF
  rw [← bodyOf_eq_body, ← lenOf_eq_bytes] at hb
  exact exec_error (by rw [hasMeaning_eq, ha]) hb

/-! ### MOV, MVI and LXI -/

theorem setOperand_advancePc (r : Reg8) (v : Byte) (n : Nat) (s : State) :
    setOperand r v (advancePc n s) = { setOperand r v s with pc := s.pc + BitVec.ofNat 16 n } := by
  cases r <;> rfl

theorem setrp16_advancePc (p : Pair) (v : Word) (n : Nat) (s : State) :
    setrp16 p v (advancePc n s) = { setrp16 p v s with pc := s.pc + BitVec.ofNat 16 n } := by
  cases p <;> rfl

theorem mov_ok {dst src : Reg8} {s : State} (hs : operandOk src s) (hd : operandOk dst s) :
    mov dst src s = .ok (setOperand dst (operandValue src s) s, .primary) :=
  (bind_of_ok (r8_ok hs) _).trans (bind_of_ok (w8_ok hd) _)

/-- The read or, after it, the write raises; both can only name the byte at H:L (R100). -/
theorem mov_error {dst src : Reg8} {s : State} (h : ¬ (operandOk src s ∧ operandOk dst s)) :
    mov dst src s = .error { kind := .memoryOutOfRange, detail := some (hlAddr s) } := by
  by_cases hs : operandOk src s
  · have hd : ¬ operandOk dst s := fun hd => h ⟨hs, hd⟩
    exact (bind_of_ok (r8_ok hs) _).trans (bind_of_error (w8_error hd) _)
  · exact bind_of_error (r8_error hs) _

theorem mvi_ok {dst : Reg8} {v : Byte} {s : State} (h : operandOk dst s) :
    mvi dst v s = .ok (setOperand dst v s, .primary) :=
  bind_of_ok (w8_ok h) _

theorem mvi_error {dst : Reg8} {v : Byte} {s : State} (h : ¬ operandOk dst s) :
    mvi dst v s = .error { kind := .memoryOutOfRange, detail := some (hlAddr s) } :=
  bind_of_error (w8_error h) _

/-- Of the 64 pairs of operands only M,M has no MOV: its opcode is HLT (R100). -/
theorem movInstr_eq_none {dst src : Reg8} : movInstr dst src = none ↔ dst = .m ∧ src = .m := by
  cases dst <;> cases src <;> decide

theorem encode_mov {dst src : Reg8} {i : Instr} (h : movInstr dst src = some i) :
    encode i = [(0b01#2 ++ codeOfReg8 dst ++ codeOfReg8 src : BitVec 8)] := by
  cases dst <;> cases src <;> cases h <;> rfl

theorem encode_mvi (dst : Reg8) (v : Byte) :
    encode (mviInstr dst v) = [(0b00#2 ++ codeOfReg8 dst ++ 0b110#3 : BitVec 8), v] := by
  cases dst <;> rfl

theorem encode_lxi (p : Pair) (v : Word) :
    encode (lxiInstr p v) = [(0b00#2 ++ codeOfPair p ++ 0b0001#4 : BitVec 8), lo v, hi v] := by
  cases p <;> rfl

theorem exec_mov {dst src : Reg8} {i : Instr} {s : State} (hi : movInstr dst src = some i) (hs : operandOk src s)
    (hd : operandOk dst s) :
    exec i s = .next { setOperand dst (operandValue src s) s with
      pc := s.pc + 1, wait := if dst = .m ∨ src = .m then 6 else 4 } := by
  have hw : (Form.mov dst src).dur - 1 = if dst = .m ∨ src = .m then 6 else 4 := apply_ite (· - 1) ..
  rw [exec_primary (.mov dst src) (formOf_mov hi) rfl (mov_ok hs hd), hw, operandValue_advancePc, setOperand_advancePc]
  rfl

theorem exec_mvi {dst : Reg8} (v : Byte) {s : State} (hd : operandOk dst s) :
    exec (mviInstr dst v) s = .next { setOperand dst v s with pc := s.pc + 2, wait := if dst = .m then 9 else 6 } := by
  have hw : (Form.mvi dst v).dur - 1 = if dst = .m then 9 else 6 := apply_ite (· - 1) ..
  rw [exec_primary (.mvi dst v) (formOf_mvi dst v) rfl (mvi_ok hd), hw, setOperand_advancePc]
  rfl

theorem exec_lxi (p : Pair) (v : Word) (s : State) :
    exec (lxiInstr p v) s = .next { setrp16 p v s with pc := s.pc + 3, wait := 9 } := by
  rw [exec_primary (.lxi p v) (formOf_lxi p v) rfl rfl, setrp16_advancePc]
  rfl

/-- Settles O21: MOV is a read, then a write, and the two operands that can fault are both the byte at H:L. -/
theorem movCopiesOneByte : Obligations.MovCopiesOneByte := fun dst src _ =>
  ⟨movInstr_eq_none, fun _ hi =>
    ⟨encode_mov hi, exec_mov hi, fun h => exec_raises (.mov dst src) (formOf_mov hi) rfl (mov_error h)⟩⟩

/-- Settles O22: MVI is one operand write, whose fault is that of M, and LXI one pair write, which cannot fault. -/
theorem immediateLoads : Obligations.ImmediateLoads :=
  ⟨fun dst v _ =>
    ⟨encode_mvi dst v, exec_mvi v, fun h => exec_raises (.mvi dst v) (formOf_mvi dst v) rfl (mvi_error h)⟩,
    fun p v s => ⟨encode_lxi p v, exec_lxi p v s⟩⟩

/-! ### The loads and stores -/

/-- SHLD with both bytes in memory (R108). -/
theorem shld_ok {v : Word} {s : State} (hl : v.toNat < s.params.memSize) (hh : v.toNat + 1 < s.params.memSize) :
    shld v s = .ok ({ s with mem := writeMem (writeMem s.mem v.toNat s.l) (v.toNat + 1) s.h }, .primary) := by
  have hw := memWrite_ok (v := s.h) (s := { s with mem := writeMem s.mem v.toNat s.l }) hh
  exact (bind_of_ok (memWrite_ok hl) _).trans (bind_of_ok hw _)

/-- SHLD with only the byte at a16 + 1 beyond memory: it raises, and the state with L stored is not answered (R108, R212). -/
theorem shld_error_high {v : Word} {s : State} (hl : v.toNat < s.params.memSize) (hh : s.params.memSize ≤ v.toNat + 1) :
    shld v s = .error { kind := .memoryOutOfRange, detail := some (v.toNat + 1) } := by
  have hw := memWrite_error (v := s.h) (s := { s with mem := writeMem s.mem v.toNat s.l }) hh
  exact (bind_of_ok (memWrite_ok hl) _).trans (bind_of_error hw _)

/-- Settles O23: each of the four is one memory access at its address, in memory or beyond it. -/
theorem accumulatorLoadsAndStores : Obligations.AccumulatorLoadsAndStores := by
  refine ⟨fun v s => ⟨rfl, rfl, fun h => ⟨?_, ?_⟩, fun h => ⟨?_, ?_⟩⟩,
    fun p s => ⟨rfl, rfl, rfl, rfl, rfl, rfl, ?_⟩⟩
  · exact exec_primary (.lda v) rfl rfl (bind_of_ok (memRead_ok h) _)
  · exact exec_primary (.sta v) rfl rfl (bind_of_ok (memWrite_ok (s := advancePc 3 s) h) _)
  · exact exec_raises (.lda v) rfl rfl (bind_of_error (memRead_error h) _)
  · exact exec_raises (.sta v) rfl rfl (bind_of_error (memWrite_error (s := advancePc 3 s) h) _)
  · rw [← indexAddr_advancePc p 1]
    refine ⟨fun h => ⟨?_, ?_⟩, fun h => ⟨?_, ?_⟩⟩
    · exact exec_primary (.ldax p) (formOf_ldax p) rfl (bind_of_ok (memRead_ok h) _)
    · exact exec_primary (.stax p) (formOf_stax p) rfl (bind_of_ok (memWrite_ok (s := advancePc 1 s) h) _)
    · exact exec_raises (.ldax p) (formOf_ldax p) rfl (bind_of_error (memRead_error h) _)
    · exact exec_raises (.stax p) (formOf_stax p) rfl (bind_of_error (memWrite_error (s := advancePc 1 s) h) _)

/-- Settles O24: LHLD and SHLD are two accesses, at a16 and at a16 + 1 unwrapped; the first beyond memory raises, and what SHLD
wrote before it is lost with the state it was written to. -/
theorem directPairLoadsAndExchange : Obligations.DirectPairLoadsAndExchange := by
  refine ⟨fun v s => ⟨rfl, rfl, fun hh => ?_, fun hl => ⟨?_, ?_⟩, fun hl hh => ⟨?_, ?_⟩⟩, fun s => ⟨rfl, ?_⟩⟩
  · have hl : v.toNat < s.params.memSize := Nat.lt_of_succ_lt hh
    constructor
    · exact exec_primary (.lhld v) rfl rfl ((bind_of_ok (memRead_ok hl) _).trans (bind_of_ok (memRead_ok hh) _))
    · exact exec_primary (.shld v) rfl rfl (shld_ok (s := advancePc 3 s) hl hh)
  · exact exec_raises (.lhld v) rfl rfl (bind_of_error (memRead_error hl) _)
  · exact exec_raises (.shld v) rfl rfl (bind_of_error (memWrite_error (s := advancePc 3 s) hl) _)
  · exact exec_raises (.lhld v) rfl rfl ((bind_of_ok (memRead_ok hl) _).trans (bind_of_error (memRead_error hh) _))
  · exact exec_raises (.shld v) rfl rfl (shld_error_high (s := advancePc 3 s) hl hh)
  · exact exec_primary .xchg rfl rfl rfl

end Sys2Proof.Machine
end

section
/-! PROOFS. Arithmetic (41_arithmetic.md): the adder, and what ADD to CMP, their immediate forms, INR, DCR, INX, DCX and DAD
answer. -/

namespace Sys2Proof.Machine

/-! ### The adder -/

/-- The carry out of a sum that has one bit more than its terms: its top bit is set exactly from `2 ^ k` upward. -/
theorem testBit_top_iff {n k : Nat} (h : n < 2 ^ (k + 1)) : n.testBit k = true ↔ 2 ^ k ≤ n :=
  ⟨Nat.ge_two_pow_of_testBit, fun hk => Nat.testBit_of_two_pow_le_and_two_pow_add_one_gt hk h⟩

/-- The low digit of a byte, by mask and by remainder. -/
theorem toNat_and_0xF (x : Byte) : (x &&& 0xF).toNat = x.toNat % 16 :=
  (BitVec.toNat_and x 0xF).trans (Nat.and_two_pow_sub_one_eq_mod x.toNat 4)

/-- Settles O17: the sum has nine bits, so its bit 8 says whether it reaches 256. -/
theorem adderResultAndCarries : Obligations.AdderResultAndCarries := by
  intro a b cin
  have nine_bits : a.toNat + b.toNat + cin.toNat < 2 ^ (8 + 1) := by
    have := a.isLt
    have := b.isLt
    have := cin.toNat_lt
    omega
  rw [toNat_and_0xF, toNat_and_0xF]
  exact ⟨BitVec.toNat_ofNat .., testBit_top_iff nine_bits, decide_eq_true_iff⟩

/-! ### ADD, ADC, SUB, SBB and CMP, and their immediate forms -/

theorem encode_aluReg (op : AluOp) (r : Reg8) :
    encode (aluRegInstr op r) = [(0b10#2 ++ codeOfAluOp op ++ codeOfReg8 r : BitVec 8)] := by
  cases op <;> cases r <;> rfl

/-- An ALU operation on a register is the read of the operand, then the operation on the byte read (R123 to R127). -/
theorem aluRegBody_eq (op : AluOp) (r : Reg8) (s : State) :
    aluRegBody op r s = (do let v ← r8 r s; aluImmBody op v s) := by
  cases op <;> rfl

/-- An ALU operation on an operand that exists leaves what the operation on the operand's byte answers. -/
theorem exec_aluReg (op : AluOp) {r : Reg8} {s t : State} (h : operandOk r s)
    (hb : aluImmBody op (operandValue r s) (advancePc 1 s) = .ok (t, .primary)) :
    exec (aluRegInstr op r) s = .next { t with wait := if r = .m then 6 else 3 } := by
  have hw : (Form.aluReg op r).dur - 1 = if r = .m then 6 else 3 := apply_ite (· - 1) ..
  rw [← operandValue_advancePc r 1 s] at hb
  rw [exec_primary (.aluReg op r) (formOf_aluReg op r) rfl
    ((aluRegBody_eq ..).trans ((bind_of_ok (r8_ok h) _).trans hb)), hw]

theorem exec_aluReg_raises (op : AluOp) {r : Reg8} {s : State} (h : ¬ operandOk r s) :
    exec (aluRegInstr op r) s = .next (faultedAt (aluRegInstr op r) s .memoryOutOfRange (some (hlAddr s))) :=
  exec_raises (.aluReg op r) (formOf_aluReg op r) rfl ((aluRegBody_eq ..).trans (bind_of_error (r8_error h) _))

/-- Settles O25: each row is the read of its operand, which raises or gives the byte, then the operation of its `op`. -/
theorem registerArithmetic : Obligations.RegisterArithmetic := fun r _ =>
  ⟨fun op _ => ⟨encode_aluReg op r, exec_aluReg_raises op⟩,
    fun h => ⟨(exec_aluReg .add h rfl :), (exec_aluReg .adc h rfl :), (exec_aluReg .sub h rfl :),
      (exec_aluReg .sbb h rfl :), (exec_aluReg .cmp h rfl :)⟩⟩

/-- An ALU operation on an immediate byte leaves what its body answers. -/
theorem exec_aluImm (op : AluOp) {v : Byte} {i : Instr} {s t : State} (hi : formOf i = .aluImm op v)
    (hb : aluImmBody op v (advancePc 2 s) = .ok (t, .primary)) : exec i s = .next { t with wait := 6 } :=
  exec_primary (.aluImm op v) hi rfl hb

/-- Settles O26: each of the five is the operation of its `op` on the immediate byte, which cannot raise. -/
theorem immediateArithmetic : Obligations.ImmediateArithmetic := fun _ _ =>
  ⟨rfl, rfl, rfl, rfl, rfl, exec_aluImm .add rfl rfl, exec_aluImm .adc rfl rfl, exec_aluImm .sub rfl rfl,
    exec_aluImm .sbb rfl rfl, exec_aluImm .cmp rfl rfl⟩

/-! ### INR and DCR -/

/-- What INR and DCR share: read the operand, compute from its byte, write the result back, then update S, Z, P and AC. -/
def stepBody (g : Byte → Byte × Bool × Bool) (r : Reg8) : Body := fun s => do
  let v ← r8 r s
  let t ← w8 r (g v).1 s
  return ({ t with f := stepFlags t.params.acMode (g v).1 (g v).2.2 t.f }, .primary)

theorem inr_eq_stepBody (r : Reg8) : inr r = stepBody (add8 · 1 false) r := rfl
theorem dcr_eq_stepBody (r : Reg8) : dcr r = stepBody (sub8 · 1 false) r := rfl

/-- The write of the operand touches neither AC_MODE nor F, so the flag update is that of the state before it. -/
theorem stepBody_ok (g : Byte → Byte × Bool × Bool) {r : Reg8} {s : State} (h : operandOk r s) :
    stepBody g r (advancePc 1 s) = .ok ({ setOperand r (g (operandValue r s)).1 s with
      f := stepFlags s.params.acMode (g (operandValue r s)).1 (g (operandValue r s)).2.2 s.f
      pc := s.pc + 1 }, .primary) := by
  refine (bind_of_ok (r8_ok (s := advancePc 1 s) h) _).trans ((bind_of_ok (w8_ok (s := advancePc 1 s) h) _).trans ?_)
  cases r <;> rfl

theorem stepBody_error (g : Byte → Byte × Bool × Bool) {r : Reg8} {s : State} (h : ¬ operandOk r s) :
    stepBody g r s = .error { kind := .memoryOutOfRange, detail := some (hlAddr s) } :=
  bind_of_error (r8_error h) _

/-- An instruction of a form with the length and the duration of INR and DCR whose body is `stepBody g r`. -/
theorem exec_stepBody (F : Form) {g : Byte → Byte × Bool × Bool} {i : Instr} {r : Reg8} {s : State} (hi : formOf i = F)
    (ha : F.avail = .always) (hn : F.bytes = 1) (hd : F.dur = if r = .m then 10 else 5) (hF : F.body = stepBody g r)
    (h : operandOk r s) :
    exec i s = .next { setOperand r (g (operandValue r s)).1 s with
      f := stepFlags s.params.acMode (g (operandValue r s)).1 (g (operandValue r s)).2.2 s.f
      pc := s.pc + 1, wait := if r = .m then 9 else 4 } := by
  have hb := stepBody_ok g h
  rw [← hF, ← hn] at hb
  rw [exec_primary F hi ha hb, hd, apply_ite (· - 1)]

theorem encode_inr (r : Reg8) : encode (inrInstr r) = [(0b00#2 ++ codeOfReg8 r ++ 0b100#3 : BitVec 8)] := by
  cases r <;> rfl

theorem encode_dcr (r : Reg8) : encode (dcrInstr r) = [(0b00#2 ++ codeOfReg8 r ++ 0b101#3 : BitVec 8)] := by
  cases r <;> rfl

/-- Settles O27: INR and DCR are `stepBody` of the adder and of the subtractor, whose one fault is that of the operand's read. -/
theorem incrementAndDecrement : Obligations.IncrementAndDecrement := fun r _ =>
  ⟨encode_inr r, encode_dcr r,
    fun h => ⟨exec_stepBody (.inr r) (formOf_inr r) rfl rfl rfl (inr_eq_stepBody r) h,
      exec_stepBody (.dcr r) (formOf_dcr r) rfl rfl rfl (dcr_eq_stepBody r) h⟩,
    fun h => ⟨exec_raises (.inr r) (formOf_inr r) rfl (stepBody_error (add8 · 1 false) h),
      exec_raises (.dcr r) (formOf_dcr r) rfl (stepBody_error (sub8 · 1 false) h)⟩⟩

/-! ### INX, DCX and DAD -/

theorem encode_inx (p : Pair) : encode (inxInstr p) = [(0b00#2 ++ codeOfPair p ++ 0b0011#4 : BitVec 8)] := by
  cases p <;> rfl

theorem encode_dcx (p : Pair) : encode (dcxInstr p) = [(0b00#2 ++ codeOfPair p ++ 0b1011#4 : BitVec 8)] := by
  cases p <;> rfl

theorem encode_dad (p : Pair) : encode (dadInstr p) = [(0b00#2 ++ codeOfPair p ++ 0b1001#4 : BitVec 8)] := by
  cases p <;> rfl

theorem exec_inx (p : Pair) (s : State) :
    exec (inxInstr p) s = .next { setrp16 p (BitVec.ofNat 16 ((rp16 p s).toNat + 1)) s with pc := s.pc + 1, wait := 4 } := by
  have sum : BitVec.ofNat 16 ((rp16 p s).toNat + 1) = rp16 p s + 1 := (BitVec.add_def _ 1).symm
  rw [exec_primary (.inx p) (formOf_inx p) rfl rfl, rp16_advancePc, setrp16_advancePc, sum]
  rfl

theorem exec_dcx (p : Pair) (s : State) :
    exec (dcxInstr p) s =
      .next { setrp16 p (BitVec.ofNat 16 ((rp16 p s).toNat + 65535)) s with pc := s.pc + 1, wait := 4 } := by
  have sum : BitVec.ofNat 16 ((rp16 p s).toNat + 65535) = rp16 p s + 65535 := (BitVec.add_def _ 65535).symm
  rw [exec_primary (.dcx p) (formOf_dcx p) rfl rfl, rp16_advancePc, setrp16_advancePc, sum]
  rfl

/-- Bit 16 of the sum of two words is the carry from bit 15 (R137). -/
theorem testBit_sixteen_of_sum (x y : Word) : (x.toNat + y.toNat).testBit 16 = decide (65536 ≤ x.toNat + y.toNat) := by
  have seventeen_bits : x.toNat + y.toNat < 2 ^ (16 + 1) := by
    have := x.isLt
    have := y.isLt
    omega
  exact Bool.eq_iff_iff.2 ((testBit_top_iff seventeen_bits).trans decide_eq_true_iff.symm)

theorem exec_dad (p : Pair) (s : State) :
    exec (dadInstr p) s = .next { s with
      h := hi (rp16 .hl s + rp16 p s), l := lo (rp16 .hl s + rp16 p s)
      f := setCY (decide (65536 ≤ (rp16 .hl s).toNat + (rp16 p s).toNat)) s.f, pc := s.pc + 1, wait := 9 } := by
  rw [exec_primary (.dad p) (formOf_dad p) rfl rfl, rp16_advancePc, ← testBit_sixteen_of_sum, BitVec.add_def]
  rfl

/-- Settles O28: a sum of words modulo 65536 is their sum in the pair, and what is lost of it is the carry DAD writes. -/
theorem pairArithmetic : Obligations.PairArithmetic := fun p s =>
  ⟨encode_inx p, encode_dcx p, encode_dad p, exec_inx p s, exec_dcx p s, exec_dad p s⟩

end Sys2Proof.Machine
end

section
/-! PROOFS. Logic, rotates and carry (42_logical_rotate.md): the flags of arithmetic and of logic, the logical operations, and the
rotates as arithmetic on the byte. -/

namespace Sys2Proof.Machine

/-! ### The flags of arithmetic and of logic -/

theorem flagValue_setAC (n : FlagName) (v : Bool) (f : Byte) :
    flagValue n (setAC v f) = if n = .ac then v else flagValue n f := by
  cases n <;> exact flagValue_setBit _ 4 v f (by decide)

theorem flagValue_setCY (n : FlagName) (v : Bool) (f : Byte) :
    flagValue n (setCY v f) = if n = .cy then v else flagValue n f := by
  cases n <;> exact flagValue_setBit _ 0 v f (by decide)

/-- The flag update of arithmetic, flag by flag (41_arithmetic.md R122). -/
theorem flagValue_arithFlags (n : FlagName) (mode : AcMode) (r : Byte) (cy ac : Bool) (f : Byte) :
    flagValue n (arithFlags mode r cy ac f) =
      if n = .ac then acv mode ac else if n = .cy then cy else flagValue n (szp r f) := by
  rw [arithFlags, flagValue_setAC, flagValue_setCY]

/-- The flag update of INR and DCR, flag by flag; CY is that of `f`, as `szp` keeps it (41_arithmetic.md R133, R134). -/
theorem flagValue_stepFlags (n : FlagName) (mode : AcMode) (r : Byte) (ac : Bool) (f : Byte) :
    flagValue n (stepFlags mode r ac f) = if n = .ac then acv mode ac else flagValue n (szp r f) := by
  rw [stepFlags, flagValue_setAC]

/-- The flag update of logic, flag by flag (R150). -/
theorem flagValue_logicFlags (n : FlagName) (r f : Byte) :
    flagValue n (logicFlags r f) = if n = .ac then false else if n = .cy then false else flagValue n (szp r f) := by
  rw [logicFlags, flagValue_setAC, flagValue_setCY]

/-- Settles O19: each update is `szp`, then writes of CY and AC, and none of these writes a fixed bit. -/
theorem arithmeticAndLogicFlags : Obligations.ArithmeticAndLogicFlags := by
  intro mode r f cy ac n
  rw [flagValue_arithFlags, flagValue_stepFlags, flagValue_logicFlags]
  refine ⟨?_, ?_, ?_, arithFlags_fixed mode r cy ac f, stepFlags_fixed mode r ac f, logicFlags_fixed r f⟩
  · cases n <;> rfl
  · cases n with
    | cy => exact flagCY_szp r f
    | s | z | ac | p => rfl
  · cases n <;> rfl

/-! ### ANA, XRA and ORA, and their immediate forms -/

/-- Settles O30: each row is the read of its operand, which raises or gives the byte, then the operation of its `op`; the
immediate forms have the byte already. -/
theorem logicalOperations : Obligations.LogicalOperations :=
  ⟨fun r _ =>
    ⟨fun op _ => ⟨encode_aluReg op r, exec_aluReg_raises op⟩,
      fun h => ⟨(exec_aluReg .ana h rfl :), (exec_aluReg .xra h rfl :), (exec_aluReg .ora h rfl :)⟩⟩,
    fun _ _ => ⟨rfl, rfl, rfl, exec_aluImm .ana rfl rfl, exec_aluImm .xra rfl rfl, exec_aluImm .ora rfl rfl⟩⟩

/-! ### The rotates -/

/-- Bit 7 of a byte as a number, by halving. -/
theorem toNat_getLsbD_seven (a : Byte) : (a.getLsbD 7).toNat = a.toNat / 128 := by
  have := a.isLt
  rw [BitVec.getLsbD, Nat.toNat_testBit]
  omega

/-- Bit 0 of a byte as a number. -/
theorem toNat_getLsbD_zero (a : Byte) : (a.getLsbD 0).toNat = a.toNat % 2 := by
  rw [BitVec.getLsbD, Nat.toNat_testBit, Nat.pow_zero, Nat.div_one]

theorem getLsbD_seven_eq (a : Byte) : a.getLsbD 7 = decide (128 ≤ a.toNat) :=
  Bool.eq_iff_iff.2 ((getLsbD_seven a).trans decide_eq_true_iff.symm)

theorem getLsbD_zero_eq (a : Byte) : a.getLsbD 0 = decide (a.toNat % 2 = 1) :=
  Nat.testBit_zero a.toNat

/-- Shifting left leaves bit 0 clear, so writing a bit there by OR adds it. -/
theorem shiftLeft_or_ofBool (a : Byte) (c : Bool) :
    (a <<< 1) ||| (BitVec.ofBool c).zeroExtend 8 = BitVec.ofNat 8 (a.toNat * 2 % 256 + c.toNat) := by
  have disjoint : (a <<< 1) &&& (BitVec.ofBool c).zeroExtend 8 = 0 := by
    ext i
    cases i with
    | zero | succ => simp
  rw [← BitVec.add_eq_or_of_and_eq_zero _ _ disjoint]
  apply BitVec.eq_of_toNat_eq
  simp [Nat.shiftLeft_eq]

/-- Shifting right leaves bit 7 clear, so writing a bit there by OR adds 128 times it. -/
theorem shiftRight_or_ofBool (a : Byte) (c : Bool) :
    (a >>> 1) ||| ((BitVec.ofBool c).zeroExtend 8 <<< 7) = BitVec.ofNat 8 (a.toNat / 2 + 128 * c.toNat) := by
  have disjoint : (a >>> 1) &&& ((BitVec.ofBool c).zeroExtend 8 <<< 7) = 0 := by
    ext i hi
    by_cases below : i < 7
    · simp [below]
    · have top : i = 7 := by omega
      simp [top]
  rw [← BitVec.add_eq_or_of_and_eq_zero _ _ disjoint]
  apply BitVec.eq_of_toNat_eq
  simp [Nat.shiftRight_eq_div_pow, Nat.shiftLeft_eq, Nat.mul_comm]

theorem rotLeft_eq (a : Byte) :
    rotLeft a = (BitVec.ofNat 8 (a.toNat * 2 % 256 + a.toNat / 128), decide (128 ≤ a.toNat)) := by
  rw [rotLeft, shiftLeft_or_ofBool, toNat_getLsbD_seven, getLsbD_seven_eq]

theorem rotRight_eq (a : Byte) :
    rotRight a = (BitVec.ofNat 8 (a.toNat / 2 + 128 * (a.toNat % 2)), decide (a.toNat % 2 = 1)) := by
  rw [rotRight, shiftRight_or_ofBool, toNat_getLsbD_zero, getLsbD_zero_eq]

theorem rotLeftCarry_eq (a : Byte) (cy : Bool) :
    rotLeftCarry a cy = (BitVec.ofNat 8 (a.toNat * 2 % 256 + cy.toNat), decide (128 ≤ a.toNat)) := by
  rw [rotLeftCarry, shiftLeft_or_ofBool, getLsbD_seven_eq]

theorem rotRightCarry_eq (a : Byte) (cy : Bool) :
    rotRightCarry a cy = (BitVec.ofNat 8 (a.toNat / 2 + 128 * cy.toNat), decide (a.toNat % 2 = 1)) := by
  rw [rotRightCarry, shiftRight_or_ofBool, getLsbD_zero_eq]

/-- An instruction whose body puts the byte and the carry `x` leaves any `y` that `x` is equal to. -/
theorem exec_rotate (F : Form) {i : Instr} {s : State} {x y : Byte × Bool} (hF : formOf i = F) (ha : F.avail = .always)
    (hb : F.body (advancePc F.bytes s) = .ok (putRotate x (advancePc F.bytes s), .primary)) (hx : x = y) :
    exec i s = .next { putRotate y (advancePc F.bytes s) with wait := F.dur - 1 } := by
  rw [exec_primary F hF ha hb, hx]

/-! ### STC, CMC and CMA -/

/-- The complement of a byte is its distance from 255 (R163). -/
theorem not_eq_ofNat_sub (a : Byte) : ~~~a = BitVec.ofNat 8 (255 - a.toNat) := by
  apply BitVec.eq_of_toNat_eq
  rw [BitVec.toNat_not, BitVec.toNat_ofNat]
  omega

/-- An instruction whose body only writes CY: A is as it was, here as the number it holds. -/
theorem exec_writesCarry (F : Form) {i : Instr} {s : State} {c : Bool} (hF : formOf i = F) (ha : F.avail = .always)
    (hb : F.body (advancePc F.bytes s) = .ok ({ advancePc F.bytes s with f := setCY c s.f }, .primary)) :
    exec i s = .next { advancePc F.bytes s with a := BitVec.ofNat 8 s.a.toNat, f := setCY c s.f, wait := F.dur - 1 } := by
  rw [exec_primary F hF ha hb, BitVec.ofNat_toNat, BitVec.setWidth_eq]
  rfl

theorem exec_cma (s : State) :
    exec .cma s = .next { s with a := BitVec.ofNat 8 (255 - s.a.toNat), pc := s.pc + 1, wait := 3 } := by
  rw [← not_eq_ofNat_sub]
  exact exec_primary .cma rfl rfl rfl

/-- Settles O31: a rotate is a shift whose free bit takes the bit that left or CY, and an OR into a free bit is a sum. -/
theorem rotatesCarryAndComplement : Obligations.RotatesCarryAndComplement := fun s =>
  ⟨rfl, rfl, rfl, rfl, rfl, rfl, rfl, exec_rotate .rlc rfl rfl rfl (rotLeft_eq s.a),
    exec_rotate .rrc rfl rfl rfl (rotRight_eq s.a), exec_rotate .ral rfl rfl rfl (rotLeftCarry_eq s.a (flagCY s.f)),
    exec_rotate .rar rfl rfl rfl (rotRightCarry_eq s.a (flagCY s.f)), exec_writesCarry .stc rfl rfl rfl,
    exec_writesCarry .cmc rfl rfl rfl, exec_cma s⟩

end Sys2Proof.Machine
end

section
/-! PROOFS. Control flow (43_control_flow.md): the branch tests, and what the jumps, calls and returns answer. A conditional form
runs the body of its unconditional one when taken, so `exec_calls` and `exec_returns` speak of any form that does. -/

namespace Sys2Proof.Machine

/-! ### The conditions -/

/-- Settles O20: of each pair of conditions one is a flag itself and the other its negation (R170). -/
theorem branchConditions : Obligations.BranchConditions := by
  intro f
  have negated (b : Bool) : (!b) = true ↔ b = false := iff_of_eq (Bool.not_eq_true' b)
  exact ⟨negated _, Iff.rfl, negated _, Iff.rfl, negated _, Iff.rfl, negated _, Iff.rfl⟩

theorem encode_jcc (k : Cond) (v : Word) :
    encode (jccInstr k v) = [(0b11#2 ++ codeOfCond k ++ 0b010#3 : BitVec 8), lo v, hi v] := by
  cases k <;> rfl

theorem encode_ccc (k : Cond) (v : Word) :
    encode (cccInstr k v) = [(0b11#2 ++ codeOfCond k ++ 0b100#3 : BitVec 8), lo v, hi v] := by
  cases k <;> rfl

theorem encode_rcc (k : Cond) : encode (rccInstr k) = [(0b11#2 ++ codeOfCond k ++ 0b000#3 : BitVec 8)] := by
  cases k <;> rfl

theorem jumpIf_taken {k : Cond} {s : State} (v : Word) (h : condHolds k s.f = true) : jumpIf k v s = jump v s :=
  if_pos h

theorem jumpIf_notTaken {k : Cond} {s : State} (v : Word) (h : condHolds k s.f = false) : jumpIf k v s = .ok (s, .primary) :=
  if_neg (Bool.eq_false_iff.1 h)

theorem callIf_taken {k : Cond} {s : State} (v : Word) (h : condHolds k s.f = true) : callIf k v s = call v s :=
  if_pos h

theorem callIf_notTaken {k : Cond} {s : State} (v : Word) (h : condHolds k s.f = false) :
    callIf k v s = .ok (s, .alternate) :=
  if_neg (Bool.eq_false_iff.1 h)

theorem retIf_taken {k : Cond} {s : State} (h : condHolds k s.f = true) : retIf k s = ret s :=
  if_pos h

theorem retIf_notTaken {k : Cond} {s : State} (h : condHolds k s.f = false) : retIf k s = .ok (s, .alternate) :=
  if_neg (Bool.eq_false_iff.1 h)

/-- An instruction of a form that always has a meaning primes the alternate duration when its body answers Alternate
(70_reset_and_hazards.md R255). -/
theorem exec_alternate (F : Form) {i : Instr} {s t : State} (hF : formOf i = F) (ha : F.avail = .always)
    (hb : F.body (advancePc F.bytes s) = .ok (t, .alternate)) : exec i s = .next { t with wait := F.alt - 1 } := by
  subst hF
  rw [← bodyOf_eq_body, ← lenOf_eq_bytes] at hb
  rw [exec_ok (by rw [hasMeaning_eq, ha]) hb, retire, altOf_eq_alt]

/-! ### JMP and Jcc -/

/-- Settles O32: JMP puts its operand in PC, and Jcc does as JMP or does nothing past its bytes. -/
theorem jumpsSetPc : Obligations.JumpsSetPc := fun v s =>
  ⟨rfl, rfl, fun _ hi => exec_primary (.jump v) (formOf_jmp hi) rfl rfl,
    fun k => ⟨encode_jcc k v,
      fun hk => exec_primary (.jumpIf k v) (formOf_jumpIf k v) rfl (jumpIf_taken (s := advancePc 3 s) v hk),
      fun hk => exec_primary (.jumpIf k v) (formOf_jumpIf k v) rfl (jumpIf_notTaken (s := advancePc 3 s) v hk)⟩⟩

/-! ### CALL and Ccc -/

/-- CALL pushes PC, which is past its bytes when its body runs, then jumps (R173). -/
theorem call_ok (v : Word) {s : State} (h : pushOk s) : call v s = .ok ({ afterPush s.pc s with pc := v }, .primary) :=
  bind_of_ok (push16_ok h) _

theorem call_error (v : Word) {s : State} {x : Raise} (h : push16 s.pc s = .error x) : call v s = .error x :=
  bind_of_error h _

/-- What an instruction that runs the body of CALL at this state does: the push finds room, meets the guard, or meets the end of
memory. -/
theorem exec_calls (F : Form) {i : Instr} {v : Word} {s : State} (hF : formOf i = F) (ha : F.avail = .always)
    (hb : F.body (advancePc F.bytes s) = call v (advancePc 3 s)) :
    (pushOk s → exec i s = .next { afterPush (s.pc + 3) s with pc := v, wait := F.dur - 1 }) ∧
    (s.sp.toNat ≤ 1 → exec i s = .next (faultedAt i s .stackUnderflowProtection (some s.sp.toNat))) ∧
    (2 ≤ s.sp.toNat → s.params.memSize ≤ s.sp.toNat →
      exec i s = .next (faultedAt i s .memoryOutOfRange (some s.sp.toNat))) := by
  refine ⟨fun h => ?_, fun h => ?_, fun h2 hm => ?_⟩
  · exact exec_primary F hF ha (hb.trans (call_ok v (s := advancePc 3 s) h))
  · exact exec_raises F hF ha (hb.trans (call_error v (push16_underflow _ (s := advancePc 3 s) h)))
  · exact exec_raises F hF ha (hb.trans (call_error v (push16_outOfRange _ (s := advancePc 3 s) h2 hm)))

/-- Settles O33: CALL, its aliases and a taken Ccc run one body with one duration, and a Ccc not taken runs none. -/
theorem callsPushReturnAddress : Obligations.CallsPushReturnAddress := by
  refine fun v s => ⟨rfl, rfl, rfl, rfl, fun k => ⟨encode_ccc k v, fun hk => ?_⟩, fun i hi => ?_⟩
  · exact exec_alternate (.callIf k v) (formOf_callIf k v) rfl (callIf_notTaken (s := advancePc 3 s) v hk)
  · rcases hi with hi | ⟨k, rfl, hk⟩
    · exact exec_calls (.call v) (formOf_callInstrs hi) rfl rfl
    · exact exec_calls (.callIf k v) (formOf_callIf k v) rfl (callIf_taken (s := advancePc 3 s) v hk)

/-! ### RET and Rcc -/

/-- The guard of a pop comes before memory is read (20_memory.md R61). -/
theorem pop16_stackPopOutOfRange {s : State} (h : 0xFFFE ≤ s.sp.toNat) :
    pop16 s = .error { kind := .stackPopOutOfRange, detail := some s.sp.toNat } := by
  rw [pop16_eq, if_pos h]

/-- Past the guard, the high byte's address, SP + 2, is the first read and the one that can lie beyond memory. -/
theorem pop16_memoryOutOfRange {s : State} (h : s.sp.toNat < 0xFFFE) (hm : s.params.memSize ≤ s.sp.toNat + 2) :
    pop16 s = .error { kind := .memoryOutOfRange, detail := some (s.sp.toNat + 2) } := by
  rw [pop16_eq, if_neg (Nat.not_le.2 h), if_pos hm]

/-- RET pops PC (R175). -/
theorem ret_ok {s : State} (h : popOk s) : ret s = .ok ({ s with pc := stackTop s, sp := s.sp + 2 }, .primary) :=
  bind_of_ok (pop16_ok h) _

theorem ret_error {s : State} {x : Raise} (h : pop16 s = .error x) : ret s = .error x :=
  bind_of_error h _

/-- What an instruction that runs the body of RET at this state does: the pop finds its bytes, meets the guard, or meets the end
of memory. -/
theorem exec_returns (F : Form) {i : Instr} {s : State} (hF : formOf i = F) (ha : F.avail = .always)
    (hb : F.body (advancePc F.bytes s) = ret (advancePc 1 s)) :
    (popOk s → exec i s = .next { s with pc := stackTop s, sp := s.sp + 2, wait := F.dur - 1 }) ∧
    (0xFFFE ≤ s.sp.toNat → exec i s = .next (faultedAt i s .stackPopOutOfRange (some s.sp.toNat))) ∧
    (s.sp.toNat < 0xFFFE → s.params.memSize ≤ s.sp.toNat + 2 →
      exec i s = .next (faultedAt i s .memoryOutOfRange (some (s.sp.toNat + 2)))) := by
  refine ⟨fun h => ?_, fun h => ?_, fun h hm => ?_⟩
  · exact exec_primary F hF ha (hb.trans (ret_ok (s := advancePc 1 s) h))
  · exact exec_raises F hF ha (hb.trans (ret_error (pop16_stackPopOutOfRange (s := advancePc 1 s) h)))
  · exact exec_raises F hF ha (hb.trans (ret_error (pop16_memoryOutOfRange (s := advancePc 1 s) h hm)))

/-- Settles O34: RET, *RET and a taken Rcc run one body, with durations of their own, and an Rcc not taken runs none. -/
theorem returnsPopPc : Obligations.ReturnsPopPc := by
  refine fun s => ⟨rfl, rfl, fun k => ⟨encode_rcc k, fun hk => ?_⟩, fun i cycles hi => ?_⟩
  · exact exec_alternate (.retIf k) (formOf_retIf k) rfl (retIf_notTaken (s := advancePc 1 s) hk)
  · rcases hi with ⟨hi, rfl⟩ | ⟨k, rfl, hk, rfl⟩
    · exact exec_returns .ret (formOf_retInstrs hi) rfl rfl
    · exact exec_returns (.retIf k) (formOf_retIf k) rfl (retIf_taken (s := advancePc 1 s) hk)

end Sys2Proof.Machine
end

section
/-! PROOFS. Stack, I/O and machine control (44_stack_io_machine.md): HLT, NOP and its aliases, EI and DI. What an instruction of
UNLISTED_OPS answers is said for any form of that kind. -/

namespace Sys2Proof.Machine

/-! ### Instructions that have a meaning only with UNLISTED_OPS = Execute -/

/-- Where UNLISTED_OPS is Execute such an instruction completes when its form's body answers Primary (30_encoding.md R85). -/
theorem exec_unlisted (F : Form) {i : Instr} {s t : State} (hF : formOf i = F) (ha : F.avail = .unlistedExecute)
    (hu : s.params.unlistedOps = .execute) (hb : F.body (advancePc F.bytes s) = .ok (t, .primary)) :
    exec i s = .next { t with wait := F.dur - 1 } := by
  subst hF
  rw [← bodyOf_eq_body, ← lenOf_eq_bytes] at hb
  have hm : hasMeaning s.params i = true := by
    rw [hasMeaning_eq, ha]
    exact decide_eq_true hu
  rw [exec_ok hm hb, retire, durOf_eq_dur]

/-- Where UNLISTED_OPS is Fault such an instruction has no meaning, whatever its body (R85). -/
theorem exec_unlisted_undefined {i : Instr} {s : State} (ha : (formOf i).avail = .unlistedExecute)
    (hu : s.params.unlistedOps = .fault) : exec i s = .next (faultedAt i s .undefinedOpcode none) := by
  have hm : hasMeaning s.params i = false := by
    rw [hasMeaning_eq, ha, hu]
    rfl
  exact exec_undefined hm

/-! ### HLT, NOP, EI and DI -/

theorem formOf_nopInstrs {i : Instr} (h : i ∈ nopInstrs) : formOf i = .noOp := by
  revert i
  decide

/-- HLT answers Halt, which primes no cycles: `wait` is as it was (R196). -/
theorem exec_hlt (s : State) : exec .hlt s = .next { s with pc := s.pc + 1, run := .halted } :=
  exec_ok (t := advancePc 1 s) (r := .halt) rfl rfl

/-- Settles O39: HLT ends by Halt, the NOPs share one body that changes nothing, and EI and DI write INTE where they have a
meaning. -/
theorem machineControl : Obligations.MachineControl := fun s =>
  ⟨rfl, rfl, rfl, rfl, exec_hlt s, fun _ hi => exec_primary .noOp (formOf_nopInstrs hi) rfl rfl,
    fun hu => ⟨exec_unlisted .enableInt rfl rfl hu rfl, exec_unlisted .disableInt rfl rfl hu rfl⟩,
    fun hu => ⟨exec_unlisted_undefined rfl hu, exec_unlisted_undefined rfl hu⟩⟩

end Sys2Proof.Machine
end

section
/-! PROOFS. Which instructions raise the two stack faults, and when (60_exceptions.md R214, R215): a fault other than
UndefinedOpcode is what the body raises, and a body meets the guard of a push or of a pop exactly where it pushes or pops. -/

namespace Sys2Proof.Machine

/-! ### From the fault to the body -/

/-- A Running state that is left Faulted took a fault: no instruction that completes leaves it so. -/
theorem retire_ne_faultedAt {i : Instr} {s t : State} {r : HandlerResult} (hr : s.run = .running)
    (hb : bodyOf i (advancePc (lenOf i) s) = .ok (t, r)) (k : FaultKind) (d : Option Nat) :
    retire i r t ≠ faultedAt i s k d := by
  intro h
  have hf : (retire i r t).run = (faultedAt i s k d).run := congrArg State.run h
  rcases retire_run i r t with hc | hc
  · rw [hc, bodyOf_run hb, hr] at hf
    cases hf
  · rw [hc] at hf
    cases hf

/-- Every fault but UndefinedOpcode is raised by the body of an instruction that has a meaning (30_encoding.md R88). -/
theorem raises_iff_bodyOf_error {i : Instr} {s : State} {k : FaultKind} (hr : s.run = .running) (hk : k ≠ .undefinedOpcode) :
    raises i s k ↔
      hasMeaning s.params i = true ∧ ∃ d, bodyOf i (advancePc (lenOf i) s) = .error { kind := k, detail := d } := by
  constructor
  · rintro ⟨d, he⟩
    rw [exec_eq_runInstr] at he
    rcases runInstr_cases he with ⟨_, t, r, hb, ht⟩ | ⟨hm, x, hb, hx⟩ | ⟨_, hu⟩
    · exact absurd ht.symm (retire_ne_faultedAt hr hb k d)
    · injection congrArg State.run hx with hrec
      injection hrec with hkind
      subst hkind
      exact ⟨hm, x.detail, hb⟩
    · injection congrArg State.run hu with hrec
      injection hrec with hkind
      exact absurd hkind hk
  · rintro ⟨hm, d, hb⟩
    exact ⟨d, exec_error hm hb⟩

/-! ### From the body to the guard -/

/-- Where a body raises at all, it raises MemoryOutOfRange, or pushes and meets that guard, or pops and meets that guard. -/
theorem bodyOf_error_kind {i : Instr} {s : State} {x : Raise} (h : bodyOf i s = .error x) :
    x.kind = .memoryOutOfRange ∨
    (x.kind = .stackUnderflowProtection ∧ pushesNow i s ∧ s.sp.toNat ≤ 1) ∨
    (x.kind = .stackPopOutOfRange ∧ popsNow i s ∧ 0xFFFE ≤ s.sp.toNat) := by
  rcases body_error h with ⟨_, _, hx, _⟩ | ⟨_, _, hx, _⟩ | ⟨hp, ⟨hx, hs⟩ | ⟨hx, _⟩⟩ | ⟨hp, ⟨hx, hs⟩ | ⟨_, ⟨hx, _⟩ | ⟨hx, _⟩⟩⟩ <;>
    subst hx
  case inr.inr.inl.inl => exact .inr (.inl ⟨rfl, hp, hs⟩)
  case inr.inr.inr.inl => exact .inr (.inr ⟨rfl, hp, hs⟩)
  all_goals exact .inl rfl

/-- A body that pushes meets the guard of `push16` before it does anything else. -/
theorem bodyOf_underflow {i : Instr} {s : State} (hp : pushesNow i s) (hs : s.sp.toNat ≤ 1) :
    bodyOf i s = .error { kind := .stackUnderflowProtection, detail := some s.sp.toNat } := by
  have hcall (v : Word) := call_error v (push16_underflow s.pc hs)
  rw [bodyOf_eq_body]
  rcases hp with ⟨p, rfl⟩ | ⟨v, hi⟩ | ⟨k, v, rfl, hk⟩ | ⟨n, rfl⟩
  · rw [formOf_push]
    exact bind_of_error (push16_underflow _ hs) _
  · rw [formOf_callInstrs hi]
    exact hcall v
  · rw [formOf_callIf]
    exact (callIf_taken v hk).trans (hcall v)
  · rw [formOf_rst]
    exact hcall _

/-- A body that pops, or XTHL, meets the guard of `pop16` before it does anything else; that of XTHL is its own (R192). -/
theorem bodyOf_stackPopOutOfRange {i : Instr} {s : State} (hp : popsNow i s) (hs : 0xFFFE ≤ s.sp.toNat) :
    bodyOf i s = .error { kind := .stackPopOutOfRange, detail := some s.sp.toNat } := by
  have hret := ret_error (pop16_stackPopOutOfRange hs)
  rw [bodyOf_eq_body]
  rcases hp with ⟨p, rfl⟩ | hi | ⟨k, rfl, hk⟩ | rfl
  · rw [formOf_pop]
    exact bind_of_error (pop16_stackPopOutOfRange hs) _
  · rw [formOf_retInstrs hi]
    exact hret
  · rw [formOf_retIf]
    exact (retIf_taken hk).trans hret
  · exact if_pos hs

/-- The body raises StackUnderflowProtection exactly where it pushes with SP at most 1 (R214). -/
theorem bodyOf_underflow_iff {i : Instr} {s : State} :
    (∃ d, bodyOf i s = .error { kind := .stackUnderflowProtection, detail := d }) ↔ pushesNow i s ∧ s.sp.toNat ≤ 1 := by
  refine ⟨fun ⟨d, hb⟩ => ?_, fun ⟨hp, hs⟩ => ⟨_, bodyOf_underflow hp hs⟩⟩
  rcases bodyOf_error_kind hb with hk | ⟨_, h⟩ | ⟨hk, _⟩
  · cases hk
  · exact h
  · cases hk

/-- The body raises StackPopOutOfRange exactly where it pops, or is that of XTHL, with SP at least 0xFFFE (R215). -/
theorem bodyOf_stackPopOutOfRange_iff {i : Instr} {s : State} :
    (∃ d, bodyOf i s = .error { kind := .stackPopOutOfRange, detail := d }) ↔ popsNow i s ∧ 0xFFFE ≤ s.sp.toNat := by
  refine ⟨fun ⟨d, hb⟩ => ?_, fun ⟨hp, hs⟩ => ⟨_, bodyOf_stackPopOutOfRange hp hs⟩⟩
  rcases bodyOf_error_kind hb with hk | ⟨hk, _⟩ | ⟨_, h⟩
  · cases hk
  · cases hk
  · exact h

/-- Settles O42: each of the two is raised by the body of an instruction that has a meaning, and the body meets that guard exactly
where the instruction pushes, or pops. The body runs with PC past the instruction, which neither the guards nor the conditions
read. -/
theorem stackFaultsExactly : Obligations.StackFaultsExactly := by
  intro i s hr
  constructor
  · rw [raises_iff_bodyOf_error hr (by decide), bodyOf_underflow_iff]
    exact Iff.rfl
  · rw [raises_iff_bodyOf_error hr (by decide), bodyOf_stackPopOutOfRange_iff]
    exact Iff.rfl

end Sys2Proof.Machine
end

section
/-! PROOFS. Encoding (30_encoding.md): decoding and encoding undo each other, instruction by instruction and over a stream. -/

namespace Sys2Proof.Machine

/-! ### Decoding undoes encoding -/

/-- The table's length of an instruction counts its opcode byte and its operand bytes (R75). -/
theorem length_operandBytes (i : Instr) : (operandBytes i).length + 1 = lenOf i := by
  rw [lenOf_eq_bytes]
  cases i <;> rfl

/-- The decoder reads an opcode byte with as many operand bytes as its length asks for, and leaves the rest (R75, R86). -/
theorem decode_cons_append {op : Byte} {operands : List Byte} (rest : List Byte)
    (h : operands.length + 1 = (rowOf op).len) :
    decode (op :: (operands ++ rest)) = .ok (decodeOp op (operands.getD 0 0) (operands.getD 1 0), rest) := by
  match operands with
  | [] | [_] | [_, _] => simp only [decode, ← h]; rfl
  | _ :: _ :: _ :: _ =>
    simp only [List.length_cons] at h
    have := len_cases op
    omega

/-- An entry of format `OP_D16` joins again the word that was split (R79). -/
theorem decodeOp_word {op : Byte} {f : Word → Instr} (v : Word)
    (h : (rowOf op).build = fun b1 b2 => f (joinBytes b2 b1)) : decodeOp op (lo v) (hi v) = f v :=
  calc decodeOp op (lo v) (hi v) = f (joinBytes (hi v) (lo v)) := congrFun₂ h _ _
    _ = f v := congrArg f (joinBytes_hi_lo v)

/-- The table's entry at an instruction's opcode builds the instruction from its own operand bytes. -/
theorem decodeOp_operandBytes (i : Instr) :
    decodeOp (opcodeOf i) ((operandBytes i).getD 0 0) ((operandBytes i).getD 1 0) = i := by
  cases i
  case lxiB v | lxiD v | lxiH v | lxiSp v | shld v | lhld v | sta v | lda v | jmp v | jmpAlias v | jnz v | jz v | jnc v | jc v
    | jpo v | jpe v | jp v | jm v | call v | callAliasDD v | callAliasED v | callAliasFD v | cnz v | cz v | cnc v | cc v
    | cpo v | cpe v | cp v | cm v => exact decodeOp_word v rfl
  all_goals rfl

theorem decode_encode_append (i : Instr) (rest : List Byte) : decode (encode i ++ rest) = .ok (i, rest) := by
  rw [encode, List.cons_append, decode_cons_append rest (length_operandBytes i), decodeOp_operandBytes]

/-- Settles O52: the decoder takes as many bytes as the encoder wrote, and the table's entry builds the instruction from them. -/
theorem decodeUndoesEncode : Obligations.DecodeUndoesEncode := fun i rest _ => decode_encode_append i rest

/-! ### Encoding undoes decoding -/

/-- What was decoded encodes to the bytes that were taken (R92). -/
theorem encode_append_of_decode {bs rest : List Byte} {i : Instr} (h : decode bs = .ok (i, rest)) :
    encode i ++ rest = bs := by
  unfold decode at h
  split at h
  · cases h
  · split at h <;> rename_i hl
    all_goals cases h
    all_goals rw [encode_decodeOp, hl]; rfl

/-- An opcode byte with two bytes after it decodes to an instruction with that opcode (R83). -/
theorem decode_three_bytes (op b1 b2 : Byte) (rest : List Byte) :
    ∃ i left, decode (op :: b1 :: b2 :: rest) = .ok (i, left) ∧ opcodeOf i = op := by
  rcases len_cases op with hl | hl | hl
  · exact ⟨_, _, decode_cons_append (operands := []) (b1 :: b2 :: rest) hl.symm, opcodeOf_decodeOp ..⟩
  · exact ⟨_, _, decode_cons_append (operands := [b1]) (b2 :: rest) hl.symm, opcodeOf_decodeOp ..⟩
  · exact ⟨_, _, decode_cons_append (operands := [b1, b2]) rest hl.symm, opcodeOf_decodeOp ..⟩

/-- Settles O53: the bytes the decoder takes are those the built instruction encodes to, and no length is above 3. -/
theorem encodeUndoesDecode : Obligations.EncodeUndoesDecode :=
  ⟨fun _ _ _ => encode_append_of_decode, decode_three_bytes⟩

/-! ### A stream of instructions -/

theorem disasmStream_of_ok {bs rest : List Byte} {i : Instr} (n : Nat) (h : decode bs = .ok (i, rest)) :
    disasmStream (n + 1) bs = (i :: (disasmStream n rest).1, (disasmStream n rest).2) := by
  simp only [disasmStream, h]

theorem disasmStream_of_error {bs : List Byte} {e : DecodeError} (n : Nat) (h : decode bs = .error e) :
    disasmStream (n + 1) bs = ([], bs) := by
  simp only [disasmStream, h]

/-- The bytes of the lines and of what was left over are the stream, whatever the bound on the lines. -/
theorem disasmStream_bytes (n : Nat) (bs : List Byte) :
    ((disasmStream n bs).1.map encode).flatten ++ (disasmStream n bs).2 = bs := by
  induction n generalizing bs with
  | zero => rfl
  | succ n ih =>
    cases h : decode bs with
    | error e => rw [disasmStream_of_error n h]; rfl
    | ok p =>
      rw [disasmStream_of_ok n h, List.map_cons, List.flatten_cons, List.append_assoc, ih, encode_append_of_decode h]

/-- Every line takes a byte at least, so with as many lines as bytes the reading ends where nothing decodes. -/
theorem disasmStream_leftover {n : Nat} {bs : List Byte} (hn : bs.length ≤ n) :
    ∃ e, decode (disasmStream n bs).2 = .error e := by
  induction n generalizing bs with
  | zero =>
    obtain rfl := List.eq_nil_of_length_eq_zero (Nat.le_zero.1 hn)
    exact ⟨_, rfl⟩
  | succ n ih =>
    cases h : decode bs with
    | error e => rw [disasmStream_of_error n h]; exact ⟨e, h⟩
    | ok p =>
      rw [disasmStream_of_ok n h]
      have := decode_length h
      exact ih (by omega)

/-- A stream of complete instructions is read back whole, each line being one of them. -/
theorem disasmStream_encode {n : Nat} {is : List Instr} (hn : is.length ≤ n) :
    disasmStream n (is.map encode).flatten = (is, []) := by
  induction is generalizing n with
  | nil => cases n <;> rfl
  | cons i is ih =>
    cases n with
    | zero => cases hn
    | succ n =>
      rw [List.map_cons, List.flatten_cons, disasmStream_of_ok n (decode_encode_append i _), ih (Nat.le_of_succ_le_succ hn)]

/-- Settles O54: line by line over the bound, the decoder takes what the encoder writes, and stops only where nothing decodes. -/
theorem disassemblyRoundTrip : Obligations.DisassemblyRoundTrip :=
  ⟨fun n bs => ⟨disasmStream_bytes n bs, disasmStream_leftover⟩, fun _ _ => disasmStream_encode⟩

/-! ### Words written out -/

/-- Settles O55: each word is cut into its bytes and read off the table. -/
theorem sampleWordsDecode : Obligations.SampleWordsDecode := ⟨rfl, rfl, rfl, rfl, rfl, rfl, rfl, rfl⟩

end Sys2Proof.Machine
end

section
/-! PROOFS. Memory (20_memory.md sections 1 and 3): the bounds, read after write, the canonical form, `pop16`, and a pop after a
push. -/

namespace Sys2Proof.Machine

/-! ### Bounds, and read after write -/

/-- Permitted parameters: MEM_SIZE in 1 .. 65536 (00_scope.md R5), and DAA executed only where AC is computed (R8). -/
theorem Params.wf_iff (p : Params) :
    p.wf = true ↔ 1 ≤ p.memSize ∧ p.memSize ≤ 65536 ∧ (p.daaMode = .execute → p.acMode = .computed) := by
  have hdaa : daaModeWf p.daaMode p.acMode = true ↔ (p.daaMode = .execute → p.acMode = .computed) := by
    cases p.daaMode <;> cases p.acMode <;> decide
  rw [Params.wf, Bool.and_eq_true, hdaa, memSizeWf, Bool.and_eq_true, decide_eq_true_iff, decide_eq_true_iff, and_assoc]

/-- Settles O7: an address is below MEM_SIZE or not, and permitted parameters put MEM_SIZE at most at 0x10000. -/
theorem memoryBounds : Obligations.MemoryBounds := fun s _ _ =>
  ⟨fun h => ⟨memRead_ok h, memWrite_ok h⟩, fun h => ⟨memRead_error h, memWrite_error h⟩,
    fun hw => memRead_error ((Params.wf_iff s.params).1 hw).2.1⟩

/-- Settles O6: a write that succeeds is a `writeMem` below MEM_SIZE, and leaves the bound. -/
theorem memoryReadAfterWrite : Obligations.MemoryReadAfterWrite := by
  intro s t a v hwf hw
  obtain ⟨rfl, ha⟩ := memWrite_inv hw
  constructor
  · exact (memRead_ok (s := { s with mem := writeMem s.mem a v }) ha).trans (congrArg _ (readMem_writeMem_same hwf a v))
  · intro b hb
    simp only [memRead, readMem_writeMem_other s.mem v hb]

/-! ### The canonical form -/

theorem wfFrom_cons {lo k : Nat} {w : Byte} {m : Memory} :
    wfFrom lo ((k, w) :: m) = true ↔ lo ≤ k ∧ w ≠ unlistedByte ∧ wfFrom (k + 1) m = true := by
  simp only [wfFrom, Bool.and_eq_true, decide_eq_true_iff, and_assoc]

theorem readMem_cons_same (k : Nat) (w : Byte) (m : Memory) : readMem ((k, w) :: m) k = w := if_pos rfl

/-- What reads as listed lies at or above every bound of the listed addresses. -/
theorem le_of_readMem_ne {lo a : Nat} {m : Memory} (h : wfFrom lo m = true) (ha : readMem m a ≠ unlistedByte) : lo ≤ a :=
  Nat.le_of_not_lt fun hlt => ha (readMem_below h hlt)

/-- Canonical memories that read alike have the same first cell, as its byte is listed in both, and so on down the list. -/
theorem eq_of_readMem_eq {lo : Nat} {m n : Memory} (hm : wfFrom lo m = true) (hn : wfFrom lo n = true)
    (h : ∀ a, readMem m a = readMem n a) : m = n := by
  induction m generalizing lo n with
  | nil =>
    cases n with
    | nil => rfl
    | cons d n =>
      have := h d.1
      rw [readMem_nil, readMem_cons_same] at this
      exact absurd this.symm (wfFrom_cons.1 hn).2.1
  | cons c m ih =>
    obtain ⟨k, w⟩ := c
    obtain ⟨_, hw, hm'⟩ := wfFrom_cons.1 hm
    cases n with
    | nil =>
      have := h k
      rw [readMem_nil, readMem_cons_same] at this
      exact absurd this hw
    | cons d n =>
      obtain ⟨k', w'⟩ := d
      obtain ⟨_, hw', hn'⟩ := wfFrom_cons.1 hn
      have first : k = k' := by
        apply Nat.le_antisymm
        · exact le_of_readMem_ne (wfFrom_cons.2 ⟨Nat.le_refl k, hw, hm'⟩) (by rwa [h k', readMem_cons_same])
        · exact le_of_readMem_ne (wfFrom_cons.2 ⟨Nat.le_refl k', hw', hn'⟩) (by rwa [← h k, readMem_cons_same])
      subst first
      have byte : w = w' := by simpa only [readMem_cons_same] using h k
      have tails : ∀ a, readMem m a = readMem n a := by
        intro a
        by_cases ha : k = a
        · subst ha
          rw [readMem_below hm' (Nat.lt_succ_self k), readMem_below hn' (Nat.lt_succ_self k)]
        · simpa only [readMem_cons, if_neg ha] using h a
      rw [byte, ih hm' hn' tails]

/-- Settles O8: the canonical form leaves no choice of the cells listed. -/
theorem equalMemoriesAreEqualData : Obligations.EqualMemoriesAreEqualData := fun _ _ => eq_of_readMem_eq

/-! ### The stack -/

/-- Settles O10: each clause is one branch of `pop16_eq`: the guard, SP + 2 beyond memory, and a pop that finds its bytes. -/
theorem popReadsTwoBytes : Obligations.PopReadsTwoBytes :=
  fun _ => ⟨pop16_stackPopOutOfRange, pop16_memoryOutOfRange, pop16_ok⟩

/-- SP after a push, as a number: a push that finds room does not wrap. -/
theorem toNat_afterPush_sp (v : Word) {s : State} (h : pushOk s) : (afterPush v s).sp.toNat = s.sp.toNat - 2 :=
  BitVec.toNat_sub_of_le (y := 2) (BitVec.le_def.2 h.1)

theorem readMem_afterPush_high (v : Word) {s : State} (hwf : Memory.wf s.mem = true) (h : pushOk s) :
    readMem (afterPush v s).mem s.sp.toNat = hi v := by
  have apart : s.sp.toNat ≠ s.sp.toNat - 1 := by
    have := h.1
    omega
  rw [afterPush_mem, readMem_writeMem_other _ _ apart, readMem_writeMem_same hwf]

theorem readMem_afterPush_low (v : Word) {s : State} (hwf : Memory.wf s.mem = true) :
    readMem (afterPush v s).mem (s.sp.toNat - 1) = lo v := by
  rw [afterPush_mem, readMem_writeMem_same (writeMem_wf hwf _ _)]

/-- The value pushed is on top of the stack (20_memory.md R62). -/
theorem stackTop_afterPush (v : Word) {s : State} (hwf : Memory.wf s.mem = true) (h : pushOk s) :
    stackTop (afterPush v s) = v := by
  have h2 := h.1
  rw [stackTop, toNat_afterPush_sp v h, Nat.sub_add_cancel h2, show s.sp.toNat - 2 + 1 = s.sp.toNat - 1 by omega,
    readMem_afterPush_high v hwf h, readMem_afterPush_low v hwf, joinBytes_hi_lo]

/-- After a push the pop finds its bytes: they are the two just written. -/
theorem popOk_afterPush (v : Word) {s : State} (h : pushOk s) : popOk (afterPush v s) := by
  obtain ⟨h2, hm⟩ := h
  have := s.sp.isLt
  rw [popOk, toNat_afterPush_sp v ⟨h2, hm⟩, Nat.sub_add_cancel h2]
  exact ⟨by omega, hm⟩

/-- Settles O11: a push that succeeds leaves `afterPush`, and the bytes the pop reads are those the push wrote. -/
theorem popUndoesPush : Obligations.PopUndoesPush := by
  intro v s t hwf hp
  obtain ⟨rfl, hok⟩ := push16_inv hp
  have h2 := hok.1
  have high := readMem_afterPush_high v hwf hok
  have low := readMem_afterPush_low v hwf
  have popped := pop16_ok (popOk_afterPush v hok)
  rw [stackTop_afterPush v hwf hok, afterPush_sp, BitVec.sub_add_cancel] at popped
  refine ⟨rfl, high, low, ?_, ?_, popped⟩
  · rwa [toNat_afterPush_sp v hok, Nat.sub_add_cancel h2]
  · rwa [toNat_afterPush_sp v hok, show s.sp.toNat - 2 + 1 = s.sp.toNat - 1 by omega]

/-! ### Register operands -/

/-- A register operand reads back what was written to it; the write of M leaves H:L, its address (10_state.md R22, R23). -/
theorem operandValue_setOperand_same (r : Reg8) (v : Byte) {s : State} (hwf : Memory.wf s.mem = true) :
    operandValue r (setOperand r v s) = v := by
  cases r with
  | m => exact readMem_writeMem_same hwf (hlAddr s) v
  | b | c | d | e | h | l | a => rfl

theorem operandValue_setOperand_other {q r : Reg8} (v : Byte) (s : State) (hqr : q ≠ r) (hq : q ≠ .m) :
    operandValue q (setOperand r v s) = operandValue q s := by
  cases q with
  | m => exact absurd rfl hq
  | b | c | d | e | h | l | a => cases r <;> first | exact absurd rfl hqr | rfl

/-- An operand that was written still exists: only M may not, and its write leaves H:L and MEM_SIZE. -/
theorem operandOk_setOperand {r : Reg8} (v : Byte) {s : State} (h : operandOk r s) : operandOk r (setOperand r v s) := by
  rintro rfl
  exact h rfl

/-- Settles O12: an operand that exists is read and written as `operandValue` and `setOperand` say, one that does not is M. -/
theorem registerOperandReadAfterWrite : Obligations.RegisterOperandReadAfterWrite := fun r v s hwf =>
  ⟨fun h => ⟨r8_ok h, w8_ok h,
      (r8_ok (operandOk_setOperand v h)).trans (congrArg _ (operandValue_setOperand_same r v hwf))⟩,
    fun h => ⟨r8_error h, w8_error h⟩, fun _ => operandValue_setOperand_other v s⟩

end Sys2Proof.Machine
end

section
/-! PROOFS. Launch: the memory it leaves, when it is refused, and the invariant (70_reset_and_hazards.md R240, R258). -/

namespace Sys2Proof.Machine

/-! ### The memory a launch leaves -/

/-- The bytes written from `a` upward read back; the later writes are at higher addresses. -/
theorem readMem_writeBytes {m : Memory} (hwf : Memory.wf m = true) (a : Nat) {vs : List Byte} {k : Nat} (hk : k < vs.length) :
    readMem (writeBytes m a vs) (a + k) = vs[k] := by
  induction vs generalizing m a k with
  | nil => cases hk
  | cons v vs ih =>
    cases k with
    | zero => exact (readMem_writeBytes_other _ vs (.inl (Nat.lt_succ_self a))).trans (readMem_writeMem_same hwf a v)
    | succ k =>
      rw [show a + (k + 1) = a + 1 + k by omega]
      exact ih (writeMem_wf hwf a v) (a + 1) (Nat.lt_of_succ_lt_succ hk)

/-- What an address reads after a write depends on what that address read before. -/
theorem readMem_writeMem_congr {m n : Memory} (hm : Memory.wf m = true) (hn : Memory.wf n = true) {a : Nat} (b : Nat) (v : Byte)
    (h : readMem m a = readMem n a) : readMem (writeMem m b v) a = readMem (writeMem n b v) a := by
  by_cases ha : a = b
  · rw [ha, readMem_writeMem_same hm, readMem_writeMem_same hn]
  · rw [readMem_writeMem_other m v ha, readMem_writeMem_other n v ha, h]

/-- An address below a bound reads the same when the cells at or above the bound are left out. -/
theorem readMem_writeCells_filter {bound a : Nat} (ha : a < bound) (cs : List Host.Cell) {m n : Memory} (hm : Memory.wf m = true)
    (hn : Memory.wf n = true) (h : readMem m a = readMem n a) :
    readMem (writeCells m (cs.filter fun c => decide (c.1 < bound))) a = readMem (writeCells n cs) a := by
  induction cs generalizing m n with
  | nil => exact h
  | cons c cs ih =>
    obtain ⟨b, v⟩ := c
    by_cases hb : b < bound
    · rw [List.filter_cons, if_pos (decide_eq_true hb)]
      exact ih (writeMem_wf hm b v) (writeMem_wf hn b v) (readMem_writeMem_congr hm hn b v h)
    · rw [List.filter_cons, if_neg (mt of_decide_eq_true hb)]
      exact ih hm (writeMem_wf hn b v) (h.trans (readMem_writeMem_other n v (by omega)).symm)

/-- Settles O2: the image is written last, and INIT_MEM's cells below MEM_SIZE before it. -/
theorem launchLoadsImageAndInitMem : Obligations.LaunchLoadsImageAndInitMem := by
  intro p initMem image s h
  obtain ⟨_, _, rfl⟩ := launch_inv h
  refine ⟨fun k hk => readMem_writeBytes (writeCells_wf Memory.wf_nil _) _ hk, fun a ha houtside => ?_⟩
  exact (readMem_writeBytes_other _ _ (by omega)).trans
    (readMem_writeCells_filter ha initMem Memory.wf_nil Memory.wf_nil rfl)

/-! ### When a launch is refused -/

theorem Params.imageFits_iff (p : Params) (image : List Byte) :
    p.imageFits image = true ↔ p.loadOffset.toNat + image.length ≤ p.memSize := decide_eq_true_iff

/-- Settles O3: `launch` tests the parameters, then the image. -/
theorem launchRefusals : Obligations.LaunchRefusals := by
  intro p initMem image
  refine ⟨Params.wf_iff p, fun hw hfits => ?_, fun hw htoo => ?_, fun hw => ?_⟩
  · exact ⟨_, (if_pos hw).trans (if_pos ((Params.imageFits_iff p image).2 hfits))⟩
  · exact (if_pos hw).trans (if_neg (mt (Params.imageFits_iff p image).1 (Nat.not_le.2 htoo)))
  · exact if_neg (Bool.eq_false_iff.1 hw)

/-! ### The invariant -/

/-- Settles O5: INIT_MEM's cells and the image keep memory canonical and below MEM_SIZE, and a launch state is Running. -/
theorem launchEstablishesInvariant : Obligations.LaunchEstablishesInvariant := by
  intro p initMem image s h
  obtain ⟨hw, hfits, rfl⟩ := launch_inv h
  have below : ∀ c ∈ initMem.filter fun c => decide (c.1 < p.memSize), c.1 < p.memSize :=
    fun c hc => of_decide_eq_true (List.mem_filter.1 hc).2
  exact
    { memCanonical := writeBytes_wf (writeCells_wf Memory.wf_nil _) _ _
      memBounded := writeBytes_bounded (writeCells_bounded (boundedBy_nil _) below) ((Params.imageFits_iff p image).1 hfits)
      flags := (by decide : (0x02 : Byte) &&& 0x2A = 0x02)
      params := hw
      waitStopped := fun _ => rfl
      inteAbsent := fun _ => rfl }

/-- Settles O4: the default parameters are permitted and an empty image fits, so reset is a launch. -/
theorem resetIsDefaultLaunchAndInvariant : Obligations.ResetIsDefaultLaunchAndInvariant :=
  have reset_eq : launch defaultParams [] [] = .next State.reset := rfl
  ⟨reset_eq, launchEstablishesInvariant _ _ _ _ reset_eq⟩

end Sys2Proof.Machine
end

section
/-! PROOFS. The subtractor (41_arithmetic.md R121) and the decimal adjust (R138). -/

namespace Sys2Proof.Machine

/-! ### The subtractor -/

/-- Settles O18: the one sum `a + ~b + 1 - bin` is `a - b - bin` with 256 added, so it reaches 256 unless there is a borrow. -/
theorem subtractorResultAndBorrow : Obligations.SubtractorResultAndBorrow := by
  intro a b bin
  have ha := a.isLt
  have hb := b.isLt
  have hbin := bin.toNat_le
  have not_b : (~~~b).toNat = 255 - b.toNat := BitVec.toNat_not
  have nine_bits : a.toNat + (255 - b.toNat) + (1 - bin.toNat) < 2 ^ (8 + 1) := by omega
  have result : (sub8 a b bin).1.toNat = (a.toNat + (255 - b.toNat) + (1 - bin.toNat)) % 256 := by
    rw [← not_b]
    exact BitVec.toNat_ofNat ..
  have borrow : (sub8 a b bin).2.1 = true ↔ a.toNat + (255 - b.toNat) + (1 - bin.toNat) < 256 := by
    have carry := testBit_top_iff nine_bits
    rw [← not_b] at carry ⊢
    exact (iff_of_eq (Bool.not_eq_true' _)).trans (Bool.eq_false_iff.trans ((not_congr carry).trans Nat.not_le))
  refine ⟨result, ?_, borrow, ?_, ?_⟩
  · rw [result]
    omega
  · rw [borrow]
    omega
  · rw [toNat_and_0xF, toNat_and_0xF]
    exact decide_eq_true_iff

/-! ### DAA -/

/-- The test for the low correction of DAA (R138). -/
abbrev daaLow (a : Byte) (ac : Bool) : Prop := 9 < a.toNat % 16 ∨ ac = true

/-- The test for the high correction of DAA (R138). -/
abbrev daaHigh (a : Byte) (cy : Bool) : Prop :=
  9 < a.toNat / 16 ∨ cy = true ∨ (9 ≤ a.toNat / 16 ∧ 9 < a.toNat % 16)

/-- The carry DAA leaves is its high test, which CY alone meets. -/
theorem daaCarry_iff (a : Byte) (cy : Bool) : daaCarry a cy = true ↔ daaHigh a cy := by
  by_cases h : daaHigh a cy
  · exact iff_of_true (if_pos h) h
  · have keeps : daaCarry a cy = cy := if_neg h
    rw [keeps]
    exact iff_of_false (fun hcy => h (.inr (.inl hcy))) h

/-- The correction is put together from the two digits the tests ask for. -/
theorem toNat_daaCorrection (a : Byte) (ac cy : Bool) :
    (daaLow a ac → daaHigh a cy → (daaCorrection a ac cy).toNat = 0x66) ∧
    (daaLow a ac → ¬ daaHigh a cy → (daaCorrection a ac cy).toNat = 0x06) ∧
    (¬ daaLow a ac → daaHigh a cy → (daaCorrection a ac cy).toNat = 0x60) ∧
    (¬ daaLow a ac → ¬ daaHigh a cy → (daaCorrection a ac cy).toNat = 0) := by
  have split_tests : daaCorrection a ac cy = (if daaLow a ac then 0x06 else 0) ||| (if daaHigh a cy then 0x60 else 0) := rfl
  rw [split_tests]
  refine ⟨fun hl hh => ?_, fun hl hh => ?_, fun hl hh => ?_, fun hl hh => ?_⟩
  · rw [if_pos hl, if_pos hh]; rfl
  · rw [if_pos hl, if_neg hh]; rfl
  · rw [if_neg hl, if_pos hh]; rfl
  · rw [if_neg hl, if_neg hh]; rfl

/-- DAA with a meaning: A, and F by writes of S, Z and P, of CY and of AC. -/
theorem exec_daa {s : State} (h : s.params.daaMode = .execute) :
    let x := decimalAdjust s.a (flagAC s.f) (flagCY s.f)
    exec .daa s = .next { s with a := x.1, f := setAC x.2.2 (setCY x.2.1 (szp x.1 s.f)), pc := s.pc + 1, wait := 3 } := by
  have hm : hasMeaning s.params .daa = true := by
    rw [hasMeaning_eq]
    exact decide_eq_true h
  exact exec_ok hm rfl

theorem exec_daa_undefined {s : State} (h : s.params.daaMode = .fault) :
    exec .daa s = .next (faultedAt .daa s .undefinedOpcode none) := by
  have hm : hasMeaning s.params .daa = false := by
    rw [hasMeaning_eq, show (formOf .daa).avail = .daaExecute from rfl, h]
    rfl
  exact exec_undefined hm

/-- Settles O29: the correction is read off the two tests, and each flag off the three writes of F. -/
theorem decimalAdjustment : Obligations.DecimalAdjust := by
  intro s
  refine ⟨rfl, exec_daa_undefined, fun h => ?_⟩
  obtain ⟨both, lowOnly, highOnly, neither⟩ := toNat_daaCorrection s.a (flagAC s.f) (flagCY s.f)
  have written (n : FlagName) (ac cy : Bool) (f : Byte) :
      flagValue n (setAC ac (setCY cy f)) = if n = .ac then ac else if n = .cy then cy else flagValue n f := by
    rw [flagValue_setAC, flagValue_setCY]
  refine ⟨_, _, exec_daa h, both, lowOnly, highOnly, neither, BitVec.toNat_ofNat .., ?_, ?_, written .s .., written .z ..,
    written .p .., (setAC_fixed ..).trans ((setCY_fixed ..).trans (szp_fixed ..)), rfl⟩
  · exact (Bool.eq_iff_iff.1 (written .cy ..)).trans (daaCarry_iff ..)
  · exact (Bool.eq_iff_iff.1 (written .ac ..)).trans decide_eq_true_iff

end Sys2Proof.Machine
end

section
/-! PROOFS. PCHL and RST, PUSH and POP, XTHL and SPHL, IN and OUT (43_control_flow.md section 6, 44_stack_io_machine.md), and pairs of
instructions that undo each other. -/

namespace Sys2Proof.Machine

/-! ### PCHL and RST -/

/-- Where UNLISTED_OPS is Execute such an instruction faults when its form's body raises. -/
theorem exec_unlisted_raises (F : Form) {i : Instr} {s : State} {x : Raise} (hF : formOf i = F)
    (ha : F.avail = .unlistedExecute) (hu : s.params.unlistedOps = .execute) (hb : F.body (advancePc F.bytes s) = .error x) :
    exec i s = .next (faultedAt i s x.kind x.detail) := by
  subst hF
  rw [← bodyOf_eq_body, ← lenOf_eq_bytes] at hb
  have hm : hasMeaning s.params i = true := by
    rw [hasMeaning_eq, ha]
    exact decide_eq_true hu
  exact exec_error hm hb

theorem encode_rst (n : Fin 8) : encode (rstInstr n) = [(0b11#2 ++ BitVec.ofNat 3 n ++ 0b111#3 : BitVec 8)] := by
  revert n
  decide

/-- Settles O35: RST runs the body of CALL past its one byte, and both have a meaning only where UNLISTED_OPS is Execute. -/
theorem pchlAndRestart : Obligations.PchlAndRestart := by
  intro n s
  have hF := formOf_rst n
  refine ⟨rfl, encode_rst n, fun hu => ⟨exec_unlisted_undefined rfl hu, exec_unlisted_undefined (by rw [hF]; rfl) hu⟩,
    fun hu => ⟨exec_unlisted .pchl rfl rfl hu rfl, fun h => ?_, fun h => ?_, fun h2 hm => ?_⟩⟩
  · exact exec_unlisted (.rst n) hF rfl hu (call_ok _ (s := advancePc 1 s) h)
  · exact exec_unlisted_raises (.rst n) hF rfl hu (call_error _ (push16_underflow _ (s := advancePc 1 s) h))
  · exact exec_unlisted_raises (.rst n) hF rfl hu (call_error _ (push16_outOfRange _ (s := advancePc 1 s) h2 hm))

/-! ### PUSH and POP -/

theorem encode_push (p : StackPair) : encode (pushInstr p) = [(0b11#2 ++ codeOfStackPair p ++ 0b0101#4 : BitVec 8)] := by
  cases p <;> rfl

theorem encode_pop (p : StackPair) : encode (popInstr p) = [(0b11#2 ++ codeOfStackPair p ++ 0b0001#4 : BitVec 8)] := by
  cases p <;> rfl

theorem exec_push {p : StackPair} {s : State} (h : pushOk s) :
    exec (pushInstr p) s = .next { afterPush (stackPairValue p s) s with pc := s.pc + 1, wait := 10 } := by
  rw [← stackPairValue_advancePc p 1 s]
  exact exec_primary (.push p) (formOf_push p) rfl (bind_of_ok (push16_ok (s := advancePc 1 s) h) _)

theorem exec_push_raises {p : StackPair} {s : State} {x : Raise}
    (h : ∀ v, push16 v (advancePc 1 s) = .error x) : exec (pushInstr p) s = .next (faultedAt (pushInstr p) s x.kind x.detail) :=
  exec_raises (.push p) (formOf_push p) rfl (bind_of_error (h _) _)

theorem exec_pop {p : StackPair} {s : State} (h : popOk s) :
    exec (popInstr p) s = .next { setStackPair p (stackTop s) (advancePc 1 { s with sp := s.sp + 2 }) with wait := 9 } :=
  exec_primary (.pop p) (formOf_pop p) rfl (bind_of_ok (pop16_ok (s := advancePc 1 s) h) _)

theorem exec_pop_raises {p : StackPair} {s : State} {x : Raise} (h : pop16 (advancePc 1 s) = .error x) :
    exec (popInstr p) s = .next (faultedAt (popInstr p) s x.kind x.detail) :=
  exec_raises (.pop p) (formOf_pop p) rfl (bind_of_error h _)

/-- Settles O36: PUSH is one `push16` of the pair and POP one `pop16` into it, each with the faults of its primitive. -/
theorem pushAndPopInstructions : Obligations.PushAndPopInstructions := by
  intro p s
  refine ⟨encode_push p, encode_pop p, ?_, exec_push, fun h => ?_, fun h2 hm => ?_, fun h => ?_, fun h => ?_, fun h hm => ?_⟩
  · cases p <;> rfl
  · exact exec_push_raises fun v => push16_underflow v (s := advancePc 1 s) h
  · exact exec_push_raises fun v => push16_outOfRange v (s := advancePc 1 s) h2 hm
  · rw [exec_pop h]
    cases p <;> rfl
  · exact exec_pop_raises (pop16_stackPopOutOfRange (s := advancePc 1 s) h)
  · exact exec_pop_raises (pop16_memoryOutOfRange (s := advancePc 1 s) h hm)

/-! ### XTHL and SPHL -/

/-- XTHL past its guard with both bytes in memory (R192). -/
theorem xthl_ok {s : State} (h : popOk s) : xthl s = .ok ({ s with
    l := readMem s.mem (s.sp.toNat + 1), h := readMem s.mem (s.sp.toNat + 2)
    mem := writeMem (writeMem s.mem (s.sp.toNat + 1) s.l) (s.sp.toNat + 2) s.h }, .primary) := by
  obtain ⟨hsp, hhigh⟩ := h
  have hlow : s.sp.toNat + 1 < s.params.memSize := Nat.lt_of_succ_lt hhigh
  have hw := memWrite_ok (v := s.h) (s := { s with mem := writeMem s.mem (s.sp.toNat + 1) s.l }) hhigh
  rw [xthl, if_neg (Nat.not_le.2 hsp), memRead_ok hlow, memRead_ok hhigh, memWrite_ok hlow]
  exact bind_of_ok hw _

theorem xthl_stackPopOutOfRange {s : State} (h : 0xFFFE ≤ s.sp.toNat) :
    xthl s = .error { kind := .stackPopOutOfRange, detail := some s.sp.toNat } := if_pos h

/-- XTHL past its guard reads SP + 1 first (60_exceptions.md R218). -/
theorem xthl_error_low {s : State} (h : s.sp.toNat < 0xFFFE) (hm : s.params.memSize ≤ s.sp.toNat + 1) :
    xthl s = .error { kind := .memoryOutOfRange, detail := some (s.sp.toNat + 1) } :=
  (if_neg (Nat.not_le.2 h)).trans (bind_of_error (memRead_error hm) _)

theorem xthl_error_high {s : State} (h : s.sp.toNat < 0xFFFE) (hm : s.params.memSize = s.sp.toNat + 2) :
    xthl s = .error { kind := .memoryOutOfRange, detail := some (s.sp.toNat + 2) } :=
  (if_neg (Nat.not_le.2 h)).trans <|
    (bind_of_ok (memRead_ok (by omega)) _).trans (bind_of_error (memRead_error (Nat.le_of_eq hm)) _)

/-- Settles O37: XTHL's clauses are its guard, its two reads and its completion, and SPHL cannot raise. -/
theorem exchangeTopAndLoadSp : Obligations.ExchangeTopAndLoadSp := by
  intro s
  refine ⟨rfl, rfl, fun hu => ⟨exec_unlisted_undefined rfl hu, exec_unlisted_undefined rfl hu⟩,
    fun hu => ⟨exec_unlisted .sphl rfl rfl hu rfl, fun h => ?_, fun h => ?_, fun h hm => ?_, fun h hm => ?_⟩⟩
  · exact exec_unlisted .xthl rfl rfl hu (xthl_ok (s := advancePc 1 s) h)
  · exact exec_unlisted_raises .xthl rfl rfl hu (xthl_stackPopOutOfRange (s := advancePc 1 s) h)
  · exact exec_unlisted_raises .xthl rfl rfl hu (xthl_error_low (s := advancePc 1 s) h hm)
  · exact exec_unlisted_raises .xthl rfl rfl hu (xthl_error_high (s := advancePc 1 s) h hm)

/-! ### IN and OUT -/

/-- The minimal build answers 0 (00_scope.md R10). -/
theorem input_minimal (port : Byte) {s : State} (h : s.params.io = .minimal) :
    input port s = .ok ({ s with a := 0 }, .primary) := by
  simp only [input, ioInput, h]

/-- The external collaborator answers the next draw (00_scope.md R10). -/
theorem input_external (port : Byte) {s : State} (h : s.params.io = .external) :
    input port s = .ok ({ s with a := Config.ioIn s.ioReads port, ioReads := s.ioReads + 1 }, .primary) := by
  simp only [input, ioInput, h]

/-- Settles O38: IN is one draw of a byte, which only an external collaborator counts, and OUT one entry of the log. -/
theorem inputAndOutput : Obligations.InputAndOutput := fun p s =>
  ⟨rfl, rfl, fun h => exec_primary (.input p) rfl rfl (input_minimal p (s := advancePc 2 s) h),
    fun h => exec_primary (.input p) rfl rfl (input_external p (s := advancePc 2 s) h),
    exec_primary (.output p) rfl rfl rfl⟩

/-! ### Instructions that undo each other -/

/-- An outcome is one state. -/
theorem next_unique {x : Host.Outcome State Fault Refusal} {t u : State} (ht : x = .next t) (hu : x = .next u) : t = u :=
  Host.Outcome.next.inj (ht.symm.trans hu)

/-- PC past two instructions of one byte. -/
theorem pc_add_one_add_one (pc : Word) : pc + 1 + 1 = pc + 2 := BitVec.add_assoc pc 1 1

/-- CY written with the value it has. -/
theorem setCY_flagCY (f : Byte) : setCY (flagCY f) f = f := by
  apply byte_ext
  intro j hj
  rw [setCY, getLsbD_setBit 0 _ f j (by decide) hj]
  split
  · rename_i h
    rw [h]
    rfl
  · rfl

theorem setCY_setCY (v w : Bool) (f : Byte) : setCY v (setCY w f) = setCY v f := by
  apply byte_ext
  intro j hj
  simp only [setCY, getLsbD_setBit 0 _ _ j (by decide) hj]
  split <;> rfl

theorem flagCY_setCY (v : Bool) (f : Byte) : flagCY (setCY v f) = v := flagCY_setBit 0 v f (by decide)

/-- CY complemented twice. -/
theorem complementCY_twice (f : Byte) :
    setCY (!flagCY (setCY (!flagCY f) f)) (setCY (!flagCY f) f) = f := by
  rw [flagCY_setCY, Bool.not_not, setCY_setCY, setCY_flagCY]

/-- A stack pair written with the value it has; of the PSW this needs the fixed bits of F (10_state.md R28, R31). Memory, PC and
`wait` are in no pair. -/
theorem setStackPair_stackPairValue (p : StackPair) {s : State} (h : s.flagsFixed) (m : Memory) (pc : Word) (w : Nat) :
    setStackPair p (stackPairValue p s) { s with mem := m, pc := pc, wait := w } = { s with mem := m, pc := pc, wait := w } := by
  cases p with
  | bc | de | hl => simp only [setStackPair, stackPairValue, setrp16, rp16, hi_joinBytes, lo_joinBytes]
  | psw => simp only [setStackPair, stackPairValue, setpsw16, psw16, hi_joinBytes, lo_joinBytes, normF_eq_self h]

/-- CALL leaves its return address on top of the stack, which RET puts in PC. -/
theorem call_ret {v : Word} {s t u : State} (hwf : Memory.wf s.mem = true) (h : pushOk s) (ht : exec (.call v) s = .next t)
    (hu : exec .ret t = .next u) : u.pc = s.pc + 3 ∧ u.sp = s.sp ∧ u.run = s.run := by
  obtain rfl := next_unique ht ((exec_calls (.call v) rfl rfl rfl).1 h)
  obtain rfl := next_unique hu ((exec_returns .ret rfl rfl rfl).1 (popOk_afterPush (s.pc + 3) h))
  exact ⟨stackTop_afterPush (s.pc + 3) hwf h, BitVec.sub_add_cancel .., rfl⟩

/-- PUSH leaves the pair on top of the stack, and POP puts it where it still is. -/
theorem push_pop {p : StackPair} {s t u : State} (hwf : Memory.wf s.mem = true) (hf : s.flagsFixed) (h : pushOk s)
    (ht : exec (pushInstr p) s = .next t) (hu : exec (popInstr p) t = .next u) :
    u = { s with mem := t.mem, pc := s.pc + 2, wait := 9 } := by
  obtain rfl := next_unique ht (exec_push h)
  obtain rfl := next_unique hu (exec_pop (popOk_afterPush (stackPairValue p s) h))
  have top := stackTop_afterPush (stackPairValue p s) hwf h
  have popped : advancePc 1 { afterPush (stackPairValue p s) s with sp := s.sp - 2 + 2, pc := s.pc + 1, wait := 10 } =
      { s with mem := (afterPush (stackPairValue p s) s).mem, pc := s.pc + 2, wait := 10 } :=
    congrArg₂ (fun pc sp => { afterPush (stackPairValue p s) s with pc := pc, sp := sp, wait := 10 })
      (pc_add_one_add_one s.pc) (BitVec.sub_add_cancel ..)
  have back := setStackPair_stackPairValue p hf (afterPush (stackPairValue p s) s).mem (s.pc + 2) 10
  exact congrArg (fun x : State => { x with wait := 9 }) ((congrArg₂ (setStackPair p) top popped).trans back)

/-- Settles O40: a pop reads what the push wrote, and each of the other bodies is its own inverse. -/
theorem inverseInstructions : Obligations.InverseInstructions := by
  refine ⟨fun _ _ _ _ => call_ret, fun _ _ _ _ => push_pop, fun s t u ht hu => ?_, fun s t u ht hu => ?_,
    fun s t u ht hu => ?_, fun s t u ht hu => ?_⟩
  · obtain rfl := next_unique ht (exec_primary .xchg rfl rfl rfl)
    obtain rfl := next_unique hu (exec_primary .xchg rfl rfl rfl)
    exact congrArg (fun pc => { s with pc := pc, wait := 3 }) (pc_add_one_add_one s.pc)
  · obtain rfl := next_unique ht (exec_primary .cma rfl rfl rfl)
    obtain rfl := next_unique hu (exec_primary .cma rfl rfl rfl)
    exact congrArg₂ (fun a pc => { s with a := a, pc := pc, wait := 3 }) BitVec.not_not (pc_add_one_add_one s.pc)
  · obtain rfl := next_unique ht (exec_primary .cmc rfl rfl rfl)
    obtain rfl := next_unique hu (exec_primary .cmc rfl rfl rfl)
    exact congrArg₂ (fun f pc => { s with f := f, pc := pc, wait := 3 }) (complementCY_twice s.f) (pc_add_one_add_one s.pc)
  · obtain rfl := next_unique ht (exec_primary .stc rfl rfl rfl)
    obtain rfl := next_unique hu (exec_primary .cmc rfl rfl rfl)
    exact (flagCY_setCY ..).trans (congrArg not (flagCY_setCY true s.f))

end Sys2Proof.Machine
end

section
/-! PROOFS. What an instruction leaves unchanged (10_state.md sections 2 to 6, 20_memory.md sections 1, 3 and 4): a completed instruction
keeps what its form's body keeps, and a fault keeps everything but `run`. -/

namespace Sys2Proof.Machine

/-- An instruction that answers a state completed, with the frame of its form, or took a fault. -/
theorem exec_frame {i : Instr} {s t : State} (h : exec i s = .next t) :
    (∃ u r, BodyFrame (formOf i) (advancePc (lenOf i) s) u r ∧ t = retire i r u) ∨
    ∃ x, t = takeFault (some (opcodeOf i)) x s := by
  rcases exec_completes_or_faults i s with ⟨u, r, hb, he⟩ | ⟨x, he⟩
  · rw [bodyOf_eq_body] at hb
    exact .inl ⟨u, r, body_frame hb, next_unique h he⟩
  · exact .inr ⟨x, next_unique h he⟩

theorem regValue_retire (n : RegName) (i : Instr) (r : HandlerResult) (s : State) :
    regValue n (retire i r s) = regValue n s := by
  cases r <;> cases n <;> rfl

theorem regValue_advancePc (n : RegName) (k : Nat) (s : State) : regValue n (advancePc k s) = regValue n s := by
  cases n <;> rfl

theorem regValue_takeFault (n : RegName) (op : Option Byte) (x : Raise) (s : State) :
    regValue n (takeFault op x s) = regValue n s := by
  cases n <;> rfl

theorem storeAddrs_advancePc (F : Form) (n : Nat) (s : State) : F.storeAddrs (advancePc n s) = F.storeAddrs s := by
  cases F with
  | stax p => exact congrArg (fun a => [a]) (indexAddr_advancePc p n s)
  | mov r _ | mvi r _ | inr r | dcr r => cases r <;> rfl
  | _ => rfl

/-- Settles O57: a body writes the registers its form lists, and neither the end of an instruction nor a fault writes one. -/
theorem registerFrame : Obligations.RegisterFrame := by
  intro i s t h n hn
  rcases exec_frame h with ⟨u, r, hf, rfl⟩ | ⟨x, rfl⟩
  · rw [regsWritten_eq] at hn
    rw [regValue_retire, hf.regs n hn, regValue_advancePc]
  · exact regValue_takeFault ..

/-- Settles O58: of F the end of an instruction and a fault write nothing, and only POP PSW forces the fixed bits. -/
theorem flagFrame : Obligations.FlagFrame := by
  intro i s t h
  rw [flagsWritten_eq]
  rcases exec_frame h with ⟨u, r, hf, rfl⟩ | ⟨x, rfl⟩
  · rw [retire_f]
    exact ⟨hf.flags, fun hi => hf.fixed fun hF => hi (eq_of_formOf_pop hF), hf.noFlags⟩
  · exact ⟨fun _ _ => rfl, fun _ => rfl, fun _ => rfl⟩

/-- Settles O59: a body writes at its form's addresses, which PC has no part in. -/
theorem memoryFrame : Obligations.MemoryFrame := by
  intro i s t h a ha
  rcases exec_frame h with ⟨u, r, hf, rfl⟩ | ⟨x, rfl⟩
  · rw [storeAddrs_eq, ← storeAddrs_advancePc _ (lenOf i)] at ha
    rw [retire_mem]
    exact hf.mem a ha
  · rfl

theorem exec_params {i : Instr} {s t : State} (h : exec i s = .next t) : t.params = s.params := by
  rcases exec_frame h with ⟨u, r, hf, rfl⟩ | ⟨x, rfl⟩
  · exact (retire_params i r u).trans hf.params
  · rfl

theorem step_params {s t : State} (h : step s = .next t) : t.params = s.params := by
  obtain ⟨_, ⟨_, rfl⟩ | ⟨_, op, x, _, rfl⟩ | ⟨_, i, _, he⟩⟩ := step_cases h
  · rfl
  · rfl
  · exact exec_params he

/-- Settles O60: INTE, the log and the draw counter are each written by one form or two, which are those instructions. -/
theorem systemFrame : Obligations.SystemFrame := by
  refine ⟨fun _ _ => step_params, fun i s t h => ⟨exec_params h, ?_⟩⟩
  rcases exec_frame h with ⟨u, r, hf, rfl⟩ | ⟨x, rfl⟩
  · rw [retire_inte, retire_ioLog, retire_ioReads]
    exact ⟨fun he hd => hf.inte (fun hF => he (eq_of_formOf_enableInt hF)) fun hF => hd (eq_of_formOf_disableInt hF),
      fun ho => hf.ioLog fun v hF => ho v (eq_of_formOf_output hF),
      fun hi => hf.ioReads fun v hF => hi v (eq_of_formOf_input hF)⟩
  · exact ⟨fun _ _ => rfl, fun _ => rfl, fun _ => rfl⟩

end Sys2Proof.Machine
end

section
/-! PROOFS. Which instructions raise UndefinedOpcode, which data accesses lie beyond a full memory, and what a fault of a step leaves
(60_exceptions.md section 1). -/

namespace Sys2Proof.Machine

/-! ### UndefinedOpcode -/

/-- The instructions of UNLISTED_OPS are those of six forms (00_scope.md R9). -/
theorem mem_unlistedInstrs_iff (i : Instr) : i ∈ unlistedInstrs ↔ (formOf i).avail = .unlistedExecute := by
  constructor
  · revert i
    decide
  · have rst_mem : ∀ n : Fin 8, rstInstr n ∈ unlistedInstrs := by decide
    intro h
    cases hF : formOf i
    case xthl => rw [eq_of_formOf_xthl hF]; decide
    case sphl => rw [eq_of_formOf_sphl hF]; decide
    case pchl => rw [eq_of_formOf_pchl hF]; decide
    case enableInt => rw [eq_of_formOf_enableInt hF]; decide
    case disableInt => rw [eq_of_formOf_disableInt hF]; decide
    case rst n =>
      obtain ⟨hn, rfl⟩ := eq_of_formOf_rst hF
      exact rst_mem ⟨n, hn⟩
    all_goals
      rw [hF] at h
      cases h

theorem avail_daaExecute_iff (i : Instr) : (formOf i).avail = .daaExecute ↔ i = .daa := by
  constructor
  · intro h
    cases hF : formOf i
    case daa => exact eq_of_formOf_daa hF
    all_goals
      rw [hF] at h
      cases h
  · rintro rfl
    rfl

/-- The opcodes without a meaning under the parameters (30_encoding.md R85). -/
theorem hasMeaning_eq_false_iff (p : Params) (i : Instr) :
    hasMeaning p i = false ↔ (i = .daa ∧ p.daaMode = .fault) ∨ (i ∈ unlistedInstrs ∧ p.unlistedOps = .fault) := by
  have fault_iff (m : OpcodeMode) : decide (m = .execute) = false ↔ m = .fault := by cases m <;> decide
  rw [mem_unlistedInstrs_iff, ← avail_daaExecute_iff, hasMeaning_eq]
  cases (formOf i).avail <;> simp [fault_iff]

/-- A body never raises UndefinedOpcode: the check before it does (30_encoding.md R88). -/
theorem bodyOf_ne_undefinedOpcode {i : Instr} {s : State} {x : Raise} (h : bodyOf i s = .error x) :
    x.kind ≠ .undefinedOpcode := by
  rcases bodyOf_error_kind h with hk | ⟨hk, _⟩ | ⟨hk, _⟩ <;> rw [hk] <;> decide

/-- A fault an instruction took gives back the kind and the detail that were raised. -/
theorem raise_eq_of_faultedAt_eq_takeFault {i : Instr} {op : Option Byte} {x : Raise} {s : State} {k : FaultKind} {d : Option Nat}
    (h : faultedAt i s k d = takeFault op x s) : x = { kind := k, detail := d } := by
  injection congrArg State.run h with hrec
  injection hrec with hk _ _ hd
  rw [hk, hd]

/-- Settles O41: the only source of UndefinedOpcode is an opcode without a meaning. -/
theorem undefinedOpcodeExactly : Obligations.UndefinedOpcodeExactly := by
  intro i s hr
  rw [← hasMeaning_eq_false_iff]
  refine ⟨fun ⟨d, he⟩ => ?_, fun hm => ⟨none, exec_undefined hm⟩⟩
  rw [exec_eq_runInstr] at he
  rcases runInstr_cases he with ⟨_, t, r, hb, ht⟩ | ⟨_, x, hb, hx⟩ | ⟨hm, _⟩
  · exact absurd ht.symm (retire_ne_faultedAt hr hb _ d)
  · have := raise_eq_of_faultedAt_eq_takeFault hx
    subst this
    exact absurd rfl (bodyOf_ne_undefinedOpcode hb)
  · exact hm

/-! ### Data accesses with 65536 bytes of memory -/

/-- A fault other than UndefinedOpcode is what the body raised, detail and all. -/
theorem bodyOf_error_of_exec {i : Instr} {s : State} {k : FaultKind} {d : Option Nat} (hr : s.run = .running)
    (hk : k ≠ .undefinedOpcode) (he : exec i s = .next (faultedAt i s k d)) :
    bodyOf i (advancePc (lenOf i) s) = .error { kind := k, detail := d } := by
  obtain ⟨hm, d', hb⟩ := (raises_iff_bodyOf_error hr hk).1 ⟨d, he⟩
  rw [hb, raise_eq_of_faultedAt_eq_takeFault (next_unique he (exec_error hm hb))]

/-- A 16-bit address lies in a full memory. -/
theorem not_raisesMemory_of_full {s : State} {x : Raise} {a : Nat} (hfull : s.params.memSize = 65536) (ha : a < 65536) :
    ¬ RaisesMemory s x a := fun h => by
  have := h.2
  omega

/-- In a full memory what a body raises as MemoryOutOfRange is the access of LHLD or SHLD at 0x10000. -/
theorem bodyOf_memoryOutOfRange_full {i : Instr} {s : State} {d : Option Nat} (hfull : s.params.memSize = 65536)
    (h : bodyOf i s = .error { kind := .memoryOutOfRange, detail := d }) :
    (i = .lhld 0xFFFF ∨ i = .shld 0xFFFF) ∧ d = some 0x10000 := by
  have hsp := s.sp.isLt
  rcases body_error h with ⟨a, ha, hx⟩ | ⟨v, hi, hx⟩ | ⟨_, ⟨hx, _⟩ | hx⟩ | ⟨_, ⟨hx, _⟩ | ⟨hguard, hx | hx⟩⟩
  · exact absurd hx (not_raisesMemory_of_full hfull ha)
  · obtain ⟨hd, hm⟩ := hx
    have hv : v = 0xFFFF := by
      apply BitVec.eq_of_toNat_eq
      have := v.isLt
      show v.toNat = 0xFFFF
      omega
    subst hv
    injection hd with _ hd
    exact ⟨hi, hd⟩
  · cases hx
  · exact absurd hx (not_raisesMemory_of_full hfull hsp)
  · cases hx
  · exact absurd hx (not_raisesMemory_of_full hfull (by omega))
  · exact absurd hx (not_raisesMemory_of_full hfull (by omega))

/-- Settles O43: after the fetch only bodies raise, none PcOverflow, and only a16 + 1 reaches past a full memory. -/
theorem dataAccessFaultsInFullMemory : Obligations.DataAccessFaultsInFullMemory := by
  intro i s hr hfull
  refine ⟨fun ⟨d, he⟩ => ?_, fun d he => ?_⟩
  · rcases bodyOf_error_kind (bodyOf_error_of_exec hr (by decide) he) with hk | ⟨hk, _⟩ | ⟨hk, _⟩ <;> cases hk
  · exact bodyOf_memoryOutOfRange_full (s := advancePc (lenOf i) s) hfull (bodyOf_error_of_exec hr (by decide) he)

/-! ### The faults of a fetch -/

/-- A Running state that owes no cycles runs an instruction (70_reset_and_hazards.md R250). -/
theorem step_eq_exec1 {s : State} (hr : s.run = .running) (hw : s.wait = 0) : step s = exec1 s := by
  simp only [step, cycleStep, hr, hw, Nat.lt_irrefl, if_false]

theorem exec1_of_error {s : State} {op : Option Byte} {x : Raise} (h : fetchInstr s = .error (op, x)) :
    exec1 s = .next (takeFault op x s) := by
  simp only [exec1, h]

theorem exec1_of_ok {s : State} {i : Instr} (h : fetchInstr s = .ok i) : exec1 s = exec i s := by
  simp only [exec1, h]

/-- The byte of an instruction whose fetch raises is the first that lies beyond memory or at 0xFFFF. -/
theorem fetchInstr_error_of_byte {s : State} {k : Nat} (hk : k < (rowOf (readMem s.mem s.pc.toNat)).len)
    (before : ∀ j, j < k → s.pc.toNat + j < s.params.memSize ∧ s.pc.toNat + j < 0xFFFF)
    (hbyte : s.params.memSize ≤ s.pc.toNat + k ∨ s.pc.toNat + k = 0xFFFF) :
    ∃ x, RaisesFetch s k x ∧
      fetchInstr s = .error (if k = 0 then none else some (readMem s.mem s.pc.toNat), x) := by
  rcases fetchInstr_cases s with ⟨i, _, hop, hmem, hpc⟩ | ⟨k', x, hk', hx, before', he⟩
  · rw [lenOf, hop] at hmem hpc
    omega
  · have hx' : s.params.memSize ≤ s.pc.toNat + k' ∨ s.pc.toNat + k' = 0xFFFF := hx.imp And.left fun h => h.2.1
    obtain rfl : k' = k := by
      rcases Nat.lt_trichotomy k' k with h | h | h
      · have := before k' h
        omega
      · exact h
      · have := before' k h
        omega
    exact ⟨x, hx, he⟩

/-- Settles O44: byte k is the one whose fetch raises, and the two faults exclude each other. -/
theorem fetchFaults : Obligations.FetchFaults := by
  intro s k hr hw hk before opcode
  refine ⟨fun hm => ?_, fun hm hp => ?_⟩
  · obtain ⟨x, ⟨_, rfl⟩ | ⟨hlt, _⟩, he⟩ := fetchInstr_error_of_byte hk before (.inl hm)
    · exact (step_eq_exec1 hr hw).trans (exec1_of_error he)
    · exact absurd hm (Nat.not_le.2 hlt)
  · obtain ⟨x, ⟨hle, _⟩ | ⟨_, _, rfl⟩, he⟩ := fetchInstr_error_of_byte hk before (.inr hp)
    · exact absurd hm (Nat.not_lt.2 hle)
    · exact (step_eq_exec1 hr hw).trans (exec1_of_error he)

end Sys2Proof.Machine
end

section
/-! PROOFS. Faults are precise (60_exceptions.md R211, R212): what a step that ends in a fault leaves, and the record's cause. -/

namespace Sys2Proof.Machine

/-- The record a fault leaves (R212). -/
def Raise.record (x : Raise) (op : Option Byte) (s : State) : FaultRecord :=
  { kind := x.kind, pc := s.pc, opcode := op, detail := x.detail }

/-- An instruction that leaves a Running state Faulted took a fault: its body's, or UndefinedOpcode. -/
theorem exec_faulted {i : Instr} {s t : State} {rec : FaultRecord} (hr : s.run = .running) (he : exec i s = .next t)
    (hf : t.run = .faulted rec) :
    ∃ x, t = takeFault (some (opcodeOf i)) x s ∧ rec = x.record (some (opcodeOf i)) s ∧
      (bodyOf i (advancePc (lenOf i) s) = .error x ∨
        hasMeaning s.params i = false ∧ x = { kind := .undefinedOpcode, detail := none }) := by
  rw [exec_eq_runInstr] at he
  rcases runInstr_cases he with ⟨_, u, r, hb, rfl⟩ | ⟨_, x, hb, rfl⟩ | ⟨hm, rfl⟩
  · rcases retire_run i r u with h | h
    · rw [h, bodyOf_run hb, hr] at hf
      cases hf
    · rw [h] at hf
      cases hf
  · cases hf
    exact ⟨x, rfl, rfl, .inl hb⟩
  · cases hf
    exact ⟨_, rfl, rfl, .inr ⟨hm, rfl⟩⟩

/-- The record's opcode by R212: the byte at PC where its fetch succeeds. -/
def recordOpcode (s : State) : Option Byte :=
  if s.pc.toNat < s.params.memSize ∧ s.pc ≠ 0xFFFF then some (readMem s.mem s.pc.toNat) else none

theorem recordOpcode_of_fetched {s : State} (hm : s.pc.toNat < s.params.memSize) (hp : s.pc.toNat < 0xFFFF) :
    recordOpcode s = some (readMem s.mem s.pc.toNat) :=
  if_pos ⟨hm, fun h => Nat.ne_of_lt hp (congrArg BitVec.toNat h)⟩

/-- The opcode is missing exactly when the fetch of byte 0 raised (R216). -/
theorem recordOpcode_of_raisesFetch {s : State} {k : Nat} {x : Raise} (hx : RaisesFetch s k x)
    (before : ∀ j, j < k → s.pc.toNat + j < s.params.memSize ∧ s.pc.toNat + j < 0xFFFF) :
    recordOpcode s = if k = 0 then none else some (readMem s.mem s.pc.toNat) := by
  by_cases hk : k = 0
  · subst hk
    rw [if_pos rfl]
    refine if_neg fun ⟨hm, hp⟩ => ?_
    rcases hx with ⟨hle, _⟩ | ⟨_, htop, _⟩
    · exact Nat.not_le.2 hm hle
    · exact hp (BitVec.eq_of_toNat_eq htop)
  · obtain ⟨hm, hp⟩ := before 0 (Nat.pos_of_ne_zero hk)
    rw [if_neg hk, recordOpcode_of_fetched hm hp]

/-- A fetched instruction is that of the byte at PC, and its bytes lie in memory below 0xFFFF. -/
theorem fetchInstr_ok_inv {s : State} {i : Instr} (h : fetchInstr s = .ok i) :
    opcodeOf i = readMem s.mem s.pc.toNat ∧ s.pc.toNat + lenOf i ≤ s.params.memSize ∧ s.pc.toNat + lenOf i ≤ 0xFFFF := by
  rcases fetchInstr_cases s with ⟨j, hj, facts⟩ | ⟨_, _, _, _, _, he⟩
  · rw [h] at hj
    cases hj
    exact facts
  · rw [h] at he
    cases he

theorem recordOpcode_of_fetchInstr {s : State} {i : Instr} (h : fetchInstr s = .ok i) : recordOpcode s = some (opcodeOf i) := by
  obtain ⟨hop, hm, hp⟩ := fetchInstr_ok_inv h
  have hlen : 1 ≤ lenOf i := by
    have := len_cases (opcodeOf i)
    rw [lenOf]
    omega
  rw [hop, recordOpcode_of_fetched (by omega) (by omega)]

/-- Settles O45: the fetch or the fetched instruction raised, and each way of raising is a kind with its cause. -/
theorem faultsArePrecise : Obligations.FaultsArePrecise := by
  intro s t rec hr h hf
  obtain ⟨_, ⟨_, rfl⟩ | ⟨hw, op, x, he, rfl⟩ | ⟨hw, i, he, hx⟩⟩ := step_cases h
  · cases hr.symm.trans hf
  · cases hf
    rcases fetchInstr_cases s with ⟨i, he', _⟩ | ⟨k, x', hk, hx, before, he'⟩
    · rw [he] at he'
      cases he'
    · obtain ⟨rfl, rfl⟩ := Prod.mk.inj (Except.error.inj (he.symm.trans he'))
      refine ⟨rfl, hw, rfl, (recordOpcode_of_raisesFetch hx before).symm, ?_⟩
      rcases hx with ⟨hm, rfl⟩ | ⟨_, hp, rfl⟩
      · exact ⟨rfl, _, rfl, hm⟩
      · exact ⟨rfl, rfl, by omega⟩
  · obtain ⟨x, rfl, rfl, cause⟩ := exec_faulted hr hx hf
    refine ⟨rfl, hw, rfl, (recordOpcode_of_fetchInstr he).symm, ?_⟩
    rcases cause with hb | ⟨hm, rfl⟩
    · rcases body_error hb with ⟨_, _, rfl, hm⟩ | ⟨_, _, rfl, hm⟩ | ⟨hp, ⟨rfl, hs⟩ | ⟨rfl, hm⟩⟩ |
        ⟨hp, ⟨rfl, hs⟩ | ⟨_, ⟨rfl, hm⟩ | ⟨rfl, hm⟩⟩⟩
      · exact ⟨rfl, _, rfl, hm⟩
      · exact ⟨rfl, _, rfl, hm⟩
      · exact ⟨rfl, rfl, i, he, hp, hs⟩
      · exact ⟨rfl, _, rfl, hm⟩
      · exact ⟨rfl, rfl, i, he, hp, hs⟩
      · exact ⟨rfl, _, rfl, hm⟩
      · exact ⟨rfl, _, rfl, hm⟩
    · exact ⟨rfl, rfl, i, he, hm⟩

end Sys2Proof.Machine
end

section
/-! PROOFS. Steps and timing (30_encoding.md R88, 60_exceptions.md R232, 70_reset_and_hazards.md section 4). -/

namespace Sys2Proof.Machine

/-! ### The instruction a step runs -/

/-- Byte k of an instruction, where it lies in memory below 0xFFFF (20_memory.md R56). -/
theorem fetch8_byte {s : State} {k : Nat} (hm : s.pc.toNat + k < s.params.memSize) (hp : s.pc.toNat + k < 0xFFFF) :
    fetch8 (advancePc k s) = .ok (readMem s.mem (s.pc.toNat + k), advancePc (k + 1) s) := by
  rw [fetch8_advancePc (Nat.le_of_lt hp), if_neg (Nat.not_le.2 hm), if_neg (Nat.ne_of_lt hp)]

/-- The fetch reads the instruction that the bytes at PC decode to. -/
theorem fetchInstr_of_decode {s : State} {i : Instr} {rest : List Byte}
    (h : decode (bytesAt s.mem s.pc.toNat 3) = .ok (i, rest)) (hm : s.pc.toNat + lenOf i ≤ s.params.memSize)
    (hp : s.pc.toNat + lenOf i ≤ 0xFFFF) : fetchInstr s = .ok i := by
  have hop : opcodeOf i = readMem s.mem s.pc.toNat := (List.cons.inj (encode_append_of_decode h)).1
  rw [lenOf, hop] at hm hp
  have f0 (h0 : 1 ≤ (rowOf (readMem s.mem s.pc.toNat)).len) :
      fetch8 s = .ok (readMem s.mem s.pc.toNat, advancePc 1 s) := by
    have := fetch8_byte (s := s) (k := 0) (by omega) (by omega)
    rwa [advancePc_zero] at this
  have f1 (h1 : 2 ≤ (rowOf (readMem s.mem s.pc.toNat)).len) := fetch8_byte (s := s) (k := 1) (by omega) (by omega)
  have f2 (h2 : 3 ≤ (rowOf (readMem s.mem s.pc.toNat)).len) := fetch8_byte (s := s) (k := 2) (by omega) (by omega)
  simp only [bytesAt, decode] at h
  rcases len_cases (readMem s.mem s.pc.toNat) with hl | hl | hl <;> simp only [hl] at h <;> cases h
  · simp only [fetchInstr, f0 (by omega), hl, fetchOperands]
  · simp only [fetchInstr, f0 (by omega), hl, fetchOperands, f1 (by omega)]; rfl
  · simp only [fetchInstr, f0 (by omega), hl, fetchOperands, f1 (by omega), f2 (by omega), bind, Except.bind]; rfl

/-- Settles O47: the fetch reads the instruction the decoder reads, and the step runs it. -/
theorem stepRunsDecodedInstruction : Obligations.StepRunsDecodedInstruction := fun _ _ _ hr hw hd hm hp =>
  (step_eq_exec1 hr hw).trans (exec1_of_ok (fetchInstr_of_decode hd hm hp))

/-! ### The run-state machine -/

theorem step_pays {s : State} (hr : s.run = .running) (hw : 0 < s.wait) : step s = .next { s with wait := s.wait - 1 } := by
  simp only [step, cycleStep, hr, hw, if_true]

theorem retire_halted_iff {i : Instr} {r : HandlerResult} {s : State} (hr : s.run = .running) :
    (retire i r s).run = .halted ↔ r = .halt := by
  cases r with
  | primary | alternate => simp [hr]
  | halt => simp

/-- Of the instructions run from a Running state only HLT halts (44_stack_io_machine.md R196). -/
theorem exec_halts_iff {i : Instr} {s t : State} (hr : s.run = .running) (he : exec i s = .next t) :
    t.run = .halted ↔ i = .hlt := by
  constructor
  · intro ht
    rcases exec_frame he with ⟨u, r, hf, rfl⟩ | ⟨x, rfl⟩
    · exact eq_of_formOf_halt (hf.halts.1 ((retire_halted_iff (hf.run.trans hr)).1 ht))
    · cases ht
  · rintro rfl
    rw [next_unique he (exec_hlt s)]

/-- Settles O48: a Running state pays an owed cycle, or takes the fault of its fetch, or runs the fetched instruction, of which only
HLT halts. -/
theorem runStateMachine : Obligations.RunStateMachine := by
  intro s
  refine ⟨fun hr => ?_, fun hr => ?_, fun rec hr => ?_⟩
  · by_cases hw : 0 < s.wait
    · refine ⟨_, step_pays hr hw, fun _ => rfl, iff_of_false (fun h => ?_) fun h => Nat.ne_of_gt hw h.1⟩
      cases hr.symm.trans h
    · have hw0 : s.wait = 0 := Nat.eq_zero_of_not_pos hw
      rw [step_eq_exec1 hr hw0]
      cases hfetch : fetchInstr s with
      | error p =>
        refine ⟨_, exec1_of_error hfetch, fun h => absurd h hw, iff_of_false nofun nofun⟩
      | ok i =>
        obtain ⟨t, he, _⟩ := everyInstructionAnswersNext i s
        refine ⟨t, (exec1_of_ok hfetch).trans he, fun h => absurd h hw, ?_⟩
        rw [exec_halts_iff hr he, Except.ok.injEq]
        exact (and_iff_right hw0).symm
  · simp only [step, cycleStep, hr]
  · simp only [step, cycleStep, hr]

/-! ### Durations -/

/-- An instruction that is not taken is one whose form fails (R255). -/
theorem notTaken_iff (i : Instr) (s : State) : notTaken i s ↔ (formOf i).fails s := by
  constructor
  · rintro (⟨k, v, rfl, hk⟩ | ⟨k, rfl, hk⟩)
    · exact .inl ⟨k, v, formOf_callIf k v, hk⟩
    · exact .inr ⟨k, formOf_retIf k, hk⟩
  · rintro (⟨k, v, hF, hk⟩ | ⟨k, hF, hk⟩)
    · exact .inl ⟨k, v, eq_of_formOf_callIf hF, hk⟩
    · exact .inr ⟨k, eq_of_formOf_retIf hF, hk⟩

/-- What an instruction that leaves the core Running primes: its duration less 1, or its alternate less 1 when not taken (R250). -/
theorem exec_wait {i : Instr} {s t : State} {n : Nat} (he : exec i s = .next t) (ht : t.run = .running)
    (halt : notTaken i s → n = altOf i) (hdur : ¬ notTaken i s → n = durOf i) : t.wait = n - 1 := by
  rcases exec_frame he with ⟨u, r, hf, rfl⟩ | ⟨x, rfl⟩
  · have alternate : r = .alternate ↔ notTaken i s := hf.alternate.trans (notTaken_iff i s).symm
    cases r with
    | primary => rw [hdur (mt alternate.2 nofun)]; rfl
    | alternate => rw [halt (alternate.1 rfl)]; rfl
    | halt => cases ht
  · cases ht

theorem core_run_succ {s t : State} (k : Nat) (h : step s = .next t) :
    Host.Core.run core (k + 1) s = Host.Core.run core k t := by
  have hstep : core.step s = .next t := h
  simp only [Host.Core.run, hstep]

/-- A Running state pays its owed cycles one call at a time. -/
theorem core_run_pays {k : Nat} {s : State} (hr : s.run = .running) (hk : k ≤ s.wait) :
    Host.Core.run core k s = .next { s with wait := s.wait - k } := by
  induction k generalizing s with
  | zero => rfl
  | succ k ih =>
    rw [core_run_succ k (step_pays hr (by omega)), ih (s := { s with wait := s.wait - 1 }) hr (Nat.le_sub_one_of_lt hk)]
    simp only [Nat.sub_sub, Nat.add_comm]

/-- Settles O49: the first call runs the instruction and primes the other calls it takes, which pay one cycle each. -/
theorem instructionOccupiesItsDuration : Obligations.InstructionOccupiesItsDuration := by
  intro s t i hr hw hfetch he
  have hstep : step s = .next t := (step_eq_exec1 hr hw).trans ((exec1_of_ok hfetch).trans he)
  refine ⟨fun ht n halt hdur k hk hkn => ?_, fun ht => ⟨(exec_halts_iff hr he).1 ht, core_run_succ 0 hstep, ?_⟩⟩
  · have hwait := exec_wait he ht halt hdur
    obtain ⟨k, rfl⟩ := Nat.exists_eq_add_of_le' hk
    rw [core_run_succ k hstep, core_run_pays ht (by omega), hwait, Nat.sub_sub, Nat.add_comm 1]
  · obtain rfl := (exec_halts_iff hr he).1 ht
    rw [next_unique he (exec_hlt s)]
    exact hw

end Sys2Proof.Machine
end

section
/-! PROOFS. The duration columns of the opcode table (70_reset_and_hazards.md R255, R256), read off row by row. -/

namespace Sys2Proof

/-- The 16 rows of the opcode table (30_encoding.md R82). -/
def opcodeRows : List (List Row) :=
  [opcodeRow0, opcodeRow1, opcodeRow2, opcodeRow3, opcodeRow4, opcodeRow5, opcodeRow6, opcodeRow7, opcodeRow8, opcodeRow9,
    opcodeRowA, opcodeRowB, opcodeRowC, opcodeRowD, opcodeRowE, opcodeRowF]

theorem opcodeTable_eq_flatten : opcodeTable = opcodeRows.flatten := by
  simp only [opcodeTable, opcodeRows, List.flatten_cons, List.flatten_nil, List.append_nil, List.append_assoc]

theorem length_opcodeTable : opcodeTable.length = 256 := by
  rw [opcodeTable_eq_flatten, List.length_flatten]
  rfl

/-- The alternates: none in the rows 0 to B; at Rcc, Jcc and Ccc in each half of the rows C to F (R255). -/
theorem alt_opcodeRows : opcodeRows.map (List.map Row.alt) =
    List.replicate 12 (List.replicate 16 0) ++
      List.replicate 4 ([5, 0, 10, 0, 11, 0, 0, 0] ++ [5, 0, 10, 0, 11, 0, 0, 0]) := rfl

theorem alt_opcodeTable : opcodeTable.map Row.alt =
    List.replicate 192 0 ++ (List.replicate 8 [5, 0, 10, 0, 11, 0, 0, 0]).flatten := by
  rw [opcodeTable_eq_flatten, List.map_flatten, alt_opcodeRows, List.flatten_append, List.flatten_replicate_replicate]
  rfl

/-- Settles O51: the table has 16 rows of 16, and each row's durations and alternates are those stated. -/
theorem durationTable : Obligations.DurationTable := by
  refine ⟨length_opcodeTable, ?_, alt_opcodeTable⟩
  simp only [opcodeTable, List.map_append]
  iterate 15 refine congrArg₂ (· ++ ·) ?_ rfl
  rfl

end Sys2Proof
end
